-- ==== Sys2Proof/Word.lean ====
section
/-! DEFINITION. The widths of the core's values (00_scope.md R7, R10; 10_state.md R20) and the two field types that name a
choice rather than a number. -/

namespace Sys2Proof

/-- A byte of an AES block (00_scope.md R12). -/
abbrev Byte := BitVec 8

/-- A 32-bit word: a bus word, a command word, or one column of an AES block (20_memory.md R62, 30_encoding.md R80). -/
abbrev Word := BitVec 32

/-- A 128-bit AES block, key or round key; byte 0 is the most significant (00_scope.md R12). -/
abbrev Block := BitVec 128

/-- A 64-bit DES block or DES key (10_state.md R25, R26). -/
abbrev DesBlock := BitVec 64

/-- A 48-bit DES round subkey (10_state.md R27). -/
abbrev Subkey := BitVec 48

/-- The direction flag of a key schedule (30_encoding.md R82): 0 the encryption schedule, 1 the decryption schedule. -/
inductive Dir where
  | enc
  | dec
deriving DecidableEq, Repr

/-- The bit that stands for a direction in a command word and in STATUS (30_encoding.md R82, 10_state.md R29). -/
def Dir.bit : Dir → BitVec 1
  | .enc => 0#1
  | .dec => 1#1

/-- The key form of a triple-DES command, field K3 (30_encoding.md R83): 0 two keys (k3 = k1), 1 three keys. -/
inductive TdesKeys where
  | two
  | three
deriving DecidableEq, Repr

/-- The value of field K3 (30_encoding.md R83). -/
def TdesKeys.bit : TdesKeys → BitVec 1
  | .two => 0#1
  | .three => 1#1

end Sys2Proof
end

