-- ==== Sys2Proof/Syntax.lean ====
section
/-! DEFINITION. The commands: one constructor per row of spec/opcode_table.json (30_encoding.md R87). -/

namespace Sys2Proof

/-- A command of the core (30_encoding.md R87), with the fields of R80 that its row uses. -/
inductive Instr where
  /-- NOP (46_control.md R260). -/
  | nop
  /-- AES_SUB (40_aes_round.md R120). -/
  | aesSub
  /-- AES_INVSUB (40_aes_round.md R121). -/
  | aesInvsub
  /-- AES_SHIFT (40_aes_round.md R122). -/
  | aesShift
  /-- AES_INVSHIFT (40_aes_round.md R123). -/
  | aesInvshift
  /-- AES_MIX (40_aes_round.md R124). -/
  | aesMix
  /-- AES_INVMIX (40_aes_round.md R125). -/
  | aesInvmix
  /-- AES_ARK with round key index IDX (40_aes_round.md R126). -/
  | aesArk (idx : BitVec 4)
  /-- AES_KEYEXP with direction DIR (41_aes_keysched.md R149). -/
  | aesKeyexp (dir : Dir)
  /-- AES_ENC (42_aes_cipher.md R162). -/
  | aesEnc
  /-- AES_DEC (42_aes_cipher.md R163). -/
  | aesDec
  /-- DES_IP (43_des_round.md R191). -/
  | desIp
  /-- DES_FP (43_des_round.md R192). -/
  | desFp
  /-- DES_SWAP (43_des_round.md R193). -/
  | desSwap
  /-- DES_ROUND with subkey index IDX (43_des_round.md R194). -/
  | desRound (idx : BitVec 4)
  /-- DES_KEYEXP with DIR, KSEL and NR (44_des_keysched.md R227). -/
  | desKeyexp (dir : Dir) (ksel : BitVec 2) (nr : BitVec 5)
  /-- DES_ENC with KSEL and NR (45_des_cipher.md R241). -/
  | desEnc (ksel : BitVec 2) (nr : BitVec 5)
  /-- DES_DEC with KSEL and NR (45_des_cipher.md R242). -/
  | desDec (ksel : BitVec 2) (nr : BitVec 5)
  /-- TDES_ENC with key form K3 (45_des_cipher.md R244). -/
  | tdesEnc (keys : TdesKeys)
  /-- TDES_DEC with key form K3 (45_des_cipher.md R245). -/
  | tdesDec (keys : TdesKeys)
deriving DecidableEq, Repr

end Sys2Proof
end

