-- ==== Sys2Proof/WellFormed.lean ====
section
/-! DEFINITION. The field values that make a command legal once its row is known: AES_ARK has IDX 0..10 and the single-DES
commands with a KSEL field have KSEL 0..2 (30_encoding.md R81, R84, R89). NR is not checked here: every NR decodes
(30_encoding.md R85). -/

namespace Sys2Proof

/-- The fields of the command are legal (30_encoding.md R89, third and fourth items). -/
def Instr.wellFormed : Instr → Bool
  | .nop => true
  | .aesSub => true
  | .aesInvsub => true
  | .aesShift => true
  | .aesInvshift => true
  | .aesMix => true
  | .aesInvmix => true
  | .aesArk idx => decide (idx.toNat ≤ 10)
  | .aesKeyexp _ => true
  | .aesEnc => true
  | .aesDec => true
  | .desIp => true
  | .desFp => true
  | .desSwap => true
  | .desRound _ => true
  | .desKeyexp _ ksel _ => decide (ksel.toNat ≤ 2)
  | .desEnc ksel _ => decide (ksel.toNat ≤ 2)
  | .desDec ksel _ => decide (ksel.toNat ≤ 2)
  | .tdesEnc _ => true
  | .tdesDec _ => true

end Sys2Proof
end

