-- ==== Sys2Proof/Decode.lean ====
section
/-! DEFINITION. The command decoder and encoder (30_encoding.md R80 to R90). One 32-bit format, a table of masks and
patterns, and the two legality checks that R88 makes after the row is found. -/

namespace Sys2Proof

/-- Why a word is illegal (30_encoding.md R89). All three give ILLEGAL_COMMAND. -/
inductive Illegal where
  /-- The word matches no row of R87: an unassigned OPC, or a must-be-zero bit set (R86, R89). -/
  | noRow
  /-- AES_ARK with IDX in 11..15 (R81, R89). -/
  | arkIndex
  /-- DES_KEYEXP, DES_ENC or DES_DEC with KSEL = 3 (R84, R89). -/
  | keySelect
deriving DecidableEq, Repr

/-- What a word decodes to (R88): a command, or no legal command and why. -/
inductive Decoded where
  | ok (i : Instr)
  | illegal (why : Illegal)
deriving DecidableEq, Repr

/-! ## Fields (R80) -/

/-- `OPC = w[7:0]`. -/
def opcOf (w : Word) : BitVec 8 := w.extractLsb' 0 8

/-- `IDX = w[11:8]`. -/
def idxOf (w : Word) : BitVec 4 := w.extractLsb' 8 4

/-- `DIR = w[12]`: 0 encrypt, 1 decrypt. -/
def dirOf (w : Word) : Dir := if w.getLsbD 12 then .dec else .enc

/-- `K3 = w[13]`: 0 two keys, 1 three keys. -/
def k3Of (w : Word) : TdesKeys := if w.getLsbD 13 then .three else .two

/-- `KSEL = w[15:14]`. -/
def kselOf (w : Word) : BitVec 2 := w.extractLsb' 14 2

/-- `NR = w[20:16]`. -/
def nrOf (w : Word) : BitVec 5 := w.extractLsb' 16 5

/-- The command word of the given fields (R80):
`(NR << 16) | (KSEL << 14) | (K3 << 13) | (DIR << 12) | (IDX << 8) | OPC`. -/
def packWord (opc : BitVec 8) (idx : BitVec 4) (dir k3 : BitVec 1) (ksel : BitVec 2) (nr : BitVec 5) : Word :=
  (nr.setWidth 32 <<< 16) ||| (ksel.setWidth 32 <<< 14) ||| (k3.setWidth 32 <<< 13) ||| (dir.setWidth 32 <<< 12)
    ||| (idx.setWidth 32 <<< 8) ||| opc.setWidth 32

/-! ## The opcode map (R87) -/

/-- A row of the opcode map: it is selected by w when `w AND mask = pattern`, and `build` reads its fields from w. -/
structure OpRow where
  mask : Word
  pattern : Word
  build : Word → Instr

/-- The AES and NOP rows of R87. -/
def aesRows : List OpRow :=
  [ ⟨0xFFFFFFFF#32, 0x00000000#32, fun _ => .nop⟩,
    ⟨0xFFFFFFFF#32, 0x00000010#32, fun _ => .aesSub⟩,
    ⟨0xFFFFFFFF#32, 0x00000011#32, fun _ => .aesInvsub⟩,
    ⟨0xFFFFFFFF#32, 0x00000012#32, fun _ => .aesShift⟩,
    ⟨0xFFFFFFFF#32, 0x00000013#32, fun _ => .aesInvshift⟩,
    ⟨0xFFFFFFFF#32, 0x00000014#32, fun _ => .aesMix⟩,
    ⟨0xFFFFFFFF#32, 0x00000015#32, fun _ => .aesInvmix⟩,
    ⟨0xFFFFF0FF#32, 0x00000016#32, fun w => .aesArk (idxOf w)⟩,
    ⟨0xFFFFEFFF#32, 0x00000020#32, fun w => .aesKeyexp (dirOf w)⟩,
    ⟨0xFFFFFFFF#32, 0x00000030#32, fun _ => .aesEnc⟩,
    ⟨0xFFFFFFFF#32, 0x00000031#32, fun _ => .aesDec⟩ ]

/-- The DES and triple-DES rows of R87. -/
def desRows : List OpRow :=
  [ ⟨0xFFFFFFFF#32, 0x00000040#32, fun _ => .desIp⟩,
    ⟨0xFFFFFFFF#32, 0x00000041#32, fun _ => .desFp⟩,
    ⟨0xFFFFFFFF#32, 0x00000042#32, fun _ => .desSwap⟩,
    ⟨0xFFFFF0FF#32, 0x00000043#32, fun w => .desRound (idxOf w)⟩,
    ⟨0xFFE02FFF#32, 0x00000050#32, fun w => .desKeyexp (dirOf w) (kselOf w) (nrOf w)⟩,
    ⟨0xFFE03FFF#32, 0x00000060#32, fun w => .desEnc (kselOf w) (nrOf w)⟩,
    ⟨0xFFE03FFF#32, 0x00000061#32, fun w => .desDec (kselOf w) (nrOf w)⟩,
    ⟨0xFFFFDFFF#32, 0x00000070#32, fun w => .tdesEnc (k3Of w)⟩,
    ⟨0xFFFFDFFF#32, 0x00000071#32, fun w => .tdesDec (k3Of w)⟩ ]

/-- The opcode map (R87), all 20 rows. -/
def opcodeMap : List OpRow := aesRows ++ desRows

/-- The row that w selects, "or none" (R87, R88). -/
def selectRow (w : Word) : Option OpRow := opcodeMap.find? fun r => w &&& r.mask == r.pattern

/-- The legality checks that follow the row's selection (R88, R89). -/
def checkFields (i : Instr) : Decoded :=
  match i with
  | .aesArk idx => if 10 < idx.toNat then .illegal .arkIndex else .ok (.aesArk idx)
  | .desKeyexp dir ksel nr => if ksel = 3#2 then .illegal .keySelect else .ok (.desKeyexp dir ksel nr)
  | .desEnc ksel nr => if ksel = 3#2 then .illegal .keySelect else .ok (.desEnc ksel nr)
  | .desDec ksel nr => if ksel = 3#2 then .illegal .keySelect else .ok (.desDec ksel nr)
  | .nop => .ok .nop
  | .aesSub => .ok .aesSub
  | .aesInvsub => .ok .aesInvsub
  | .aesShift => .ok .aesShift
  | .aesInvshift => .ok .aesInvshift
  | .aesMix => .ok .aesMix
  | .aesInvmix => .ok .aesInvmix
  | .aesEnc => .ok .aesEnc
  | .aesDec => .ok .aesDec
  | .desIp => .ok .desIp
  | .desFp => .ok .desFp
  | .desSwap => .ok .desSwap
  | .aesKeyexp dir => .ok (.aesKeyexp dir)
  | .desRound idx => .ok (.desRound idx)
  | .tdesEnc keys => .ok (.tdesEnc keys)
  | .tdesDec keys => .ok (.tdesDec keys)

/-- Decodes a command word (R88), total on every 32-bit word; an illegal word is rejected by name. -/
def decode (w : Word) : Decoded :=
  match selectRow w with
  | none => .illegal .noRow
  | some r => checkFields (r.build w)

/-! ## The encoder (R80, R87) -/

/-- The command's opcode, column OPC of R87. -/
def opcode : Instr → BitVec 8
  | .nop => 0x00#8
  | .aesSub => 0x10#8
  | .aesInvsub => 0x11#8
  | .aesShift => 0x12#8
  | .aesInvshift => 0x13#8
  | .aesMix => 0x14#8
  | .aesInvmix => 0x15#8
  | .aesArk _ => 0x16#8
  | .aesKeyexp _ => 0x20#8
  | .aesEnc => 0x30#8
  | .aesDec => 0x31#8
  | .desIp => 0x40#8
  | .desFp => 0x41#8
  | .desSwap => 0x42#8
  | .desRound _ => 0x43#8
  | .desKeyexp _ _ _ => 0x50#8
  | .desEnc _ _ => 0x60#8
  | .desDec _ _ => 0x61#8
  | .tdesEnc _ => 0x70#8
  | .tdesDec _ => 0x71#8

/-- The command's word: its opcode and its fields at their places, every other bit 0 (R80, R86). -/
def encode (i : Instr) : Word :=
  match i with
  | .aesArk idx => packWord (opcode i) idx 0 0 0 0
  | .aesKeyexp dir => packWord (opcode i) 0 dir.bit 0 0 0
  | .desRound idx => packWord (opcode i) idx 0 0 0 0
  | .desKeyexp dir ksel nr => packWord (opcode i) 0 dir.bit 0 ksel nr
  | .desEnc ksel nr => packWord (opcode i) 0 0 0 ksel nr
  | .desDec ksel nr => packWord (opcode i) 0 0 0 ksel nr
  | .tdesEnc keys => packWord (opcode i) 0 0 keys.bit 0 0
  | .tdesDec keys => packWord (opcode i) 0 0 keys.bit 0 0
  | .nop => packWord (opcode i) 0 0 0 0 0
  | .aesSub => packWord (opcode i) 0 0 0 0 0
  | .aesInvsub => packWord (opcode i) 0 0 0 0 0
  | .aesShift => packWord (opcode i) 0 0 0 0 0
  | .aesInvshift => packWord (opcode i) 0 0 0 0 0
  | .aesMix => packWord (opcode i) 0 0 0 0 0
  | .aesInvmix => packWord (opcode i) 0 0 0 0 0
  | .aesEnc => packWord (opcode i) 0 0 0 0 0
  | .aesDec => packWord (opcode i) 0 0 0 0 0
  | .desIp => packWord (opcode i) 0 0 0 0 0
  | .desFp => packWord (opcode i) 0 0 0 0 0
  | .desSwap => packWord (opcode i) 0 0 0 0 0

/-- The mask of the command's row (R87): OPC and every must-be-zero bit. -/
def rowMask : Instr → Word
  | .aesArk _ => 0xFFFFF0FF#32
  | .aesKeyexp _ => 0xFFFFEFFF#32
  | .desRound _ => 0xFFFFF0FF#32
  | .desKeyexp _ _ _ => 0xFFE02FFF#32
  | .desEnc _ _ => 0xFFE03FFF#32
  | .desDec _ _ => 0xFFE03FFF#32
  | .tdesEnc _ => 0xFFFFDFFF#32
  | .tdesDec _ => 0xFFFFDFFF#32
  | .nop => 0xFFFFFFFF#32
  | .aesSub => 0xFFFFFFFF#32
  | .aesInvsub => 0xFFFFFFFF#32
  | .aesShift => 0xFFFFFFFF#32
  | .aesInvshift => 0xFFFFFFFF#32
  | .aesMix => 0xFFFFFFFF#32
  | .aesInvmix => 0xFFFFFFFF#32
  | .aesEnc => 0xFFFFFFFF#32
  | .aesDec => 0xFFFFFFFF#32
  | .desIp => 0xFFFFFFFF#32
  | .desFp => 0xFFFFFFFF#32
  | .desSwap => 0xFFFFFFFF#32

/-- The OPC values of R87, "the 20 values". -/
def assignedOpcodes : List (BitVec 8) :=
  [0x00#8, 0x10#8, 0x11#8, 0x12#8, 0x13#8, 0x14#8, 0x15#8, 0x16#8, 0x20#8, 0x30#8, 0x31#8,
    0x40#8, 0x41#8, 0x42#8, 0x43#8, 0x50#8, 0x60#8, 0x61#8, 0x70#8, 0x71#8]

/-- The bits that are OPC or a field the command of that opcode uses (R80, column "used by"). -/
def usedBits (opc : BitVec 8) : Word :=
  0x000000FF#32
    ||| (if opc ∈ [0x16#8, 0x43#8] then 0x00000F00#32 else 0#32)
    ||| (if opc ∈ [0x20#8, 0x50#8] then 0x00001000#32 else 0#32)
    ||| (if opc ∈ [0x70#8, 0x71#8] then 0x00002000#32 else 0#32)
    ||| (if opc ∈ [0x50#8, 0x60#8, 0x61#8] then 0x001FC000#32 else 0#32)

/-- The must-be-zero bits of an opcode: "every bit outside OPC and the fields that command uses" (R86). -/
def mustBeZero (opc : BitVec 8) : Word := ~~~usedBits opc

/-! ## The host's view -/

/-- The command the decoder reads from a word numbered as spec/opcode_table.json numbers it (bit 0 the least significant);
every command has 32 bits (R90), so the bits above nbits are 0 and a longer word is no command. -/
def decodeTableWord (nbits w : Nat) : Option Instr :=
  if nbits ≤ 32 then
    match decode (BitVec.ofNat 32 (w % 2 ^ nbits)) with
    | .ok i => some i
    | .illegal _ => none
  else none

end Sys2Proof
end

