-- ==== Sys2Proof/Machine/State.lean ====
section
/-! DEFINITION. The machine's state: every register 10_state.md R20 lists, and the host at the core's port (20_memory.md
R75). Plain data. The core has no data memory (20_memory.md R60), so there is no list of memory bytes; its one address space
is the register window over these fields. -/

namespace Sys2Proof.Machine

/-- The result codes of a command (60_exceptions.md R300). -/
inductive ErrCode where
  /-- The command succeeded. -/
  | ok
  /-- Kept from the source's taxonomy; no command raises it. -/
  | invalidKeySize
  /-- Kept from the source's taxonomy; no command raises it. -/
  | invalidBlockSize
  /-- DES_KEYEXP, DES_ENC or DES_DEC with NR 0 or 17..31. -/
  | invalidRoundCount
  /-- The word is illegal (30_encoding.md R89). -/
  | illegalCommand
  /-- AES_ARK or DES_ROUND without the round key it needs. -/
  | noKeySchedule
deriving DecidableEq, Repr

/-- One transaction offered at the port, with the port's own fields (20_memory.md R75). -/
structure Transaction where
  /-- `req_write`: a write, or else a read. -/
  write : Bool
  /-- `req_addr`: the byte offset in the window. -/
  addr : BitVec 10
  /-- `req_size`: 0 for 8 bits, 1 for 16, 2 for 32, 3 reserved. -/
  size : BitVec 2
  /-- `req_wdata`: the write data; a read carries it without meaning. -/
  wdata : Word
deriving DecidableEq, Repr

/-- What the world outside does to the core: a transaction, or one assertion and release of `rst`
(20_memory.md R75, 70_reset_and_hazards.md R340). -/
inductive HostEvent where
  | access (t : Transaction)
  | reset
deriving DecidableEq, Repr

/-- The core's answer to a transaction (20_memory.md R75). -/
inductive Response where
  /-- A read's `rsp_rdata`. -/
  | data (v : Word)
  /-- A write is done; of a CMD write, its command too. -/
  | done
  /-- `rsp_err`: a bus error; it carries no data (20_memory.md R63). -/
  | busError
deriving DecidableEq, Repr

/-- The state. The first fourteen fields are R20's registers; the last three are the model's own, for the host
(DESIGN CHOICE, log entries 1 and 2). -/
structure State where
  /-- `AES_STATE` (R21). -/
  aesState : Block
  /-- `AES_KEY` (R22). -/
  aesKey : Block
  /-- `AES_RK[0..10]` (R23). -/
  aesRk : Vector Block 11
  /-- `AES_KSV` (R24). -/
  aesKsv : Bool
  /-- `AES_KSDIR` (R24). -/
  aesKsdir : Dir
  /-- `DES_BLOCK` (R25). -/
  desBlock : DesBlock
  /-- `DES_KEY[0..2]` (R26). -/
  desKey : Vector DesBlock 3
  /-- `DES_SK[0..15]` (R27). -/
  desSk : Vector Subkey 16
  /-- `DES_KSV` (R28). -/
  desKsv : Bool
  /-- `DES_KSDIR` (R28). -/
  desKsdir : Dir
  /-- `DES_KSEL` (R28). -/
  desKsel : BitVec 2
  /-- `DES_NSK` (R28). -/
  desNsk : BitVec 5
  /-- `ERR` (R29, R30). -/
  err : BitVec 4
  /-- `CMD_LAST` (R31). -/
  cmdLast : Word
  /-- The host events the core has not accepted yet, oldest first (30_encoding.md R93: a straight-line list). -/
  pending : List HostEvent
  /-- The responses given so far, newest first (70_reset_and_hazards.md R352: "the data the host read"). -/
  responses : List Response
  /-- A bus error happened: the fault of the host program that nothing clears (20_memory.md R63, 60_exceptions.md R306). -/
  busFault : Bool
deriving DecidableEq, Repr

/-- The reasons a step stops with a fault. THERE IS NONE: every command on every state has a result (60_exceptions.md
R305), a command error is a result code (R301), and a bus error is an error response recorded in `State.busFault` while
the core goes on (20_memory.md R63; DESIGN CHOICE, log entry 2). Nobody raises a fault, which is safe. -/
inductive Fault where
deriving DecidableEq, Repr

/-- The reasons a step is refused. -/
inductive Refusal where
  /-- An instruction without a meaning yet; raised only by an arm of `exec` rejected by name, and no arm is. Safe. -/
  | notModelled (mnemonic : String)
deriving DecidableEq, Repr

/-- The state right after reset (10_state.md R41): every register 0, every flag 0. The host fields are empty, the model's
own choice (DESIGN CHOICE, log entries 1 and 2). -/
def State.reset : State where
  aesState := 0#128
  aesKey := 0#128
  aesRk := Vector.replicate 11 0#128
  aesKsv := false
  aesKsdir := .enc
  desBlock := 0#64
  desKey := Vector.replicate 3 0#64
  desSk := Vector.replicate 16 0#48
  desKsv := false
  desKsdir := .enc
  desKsel := 0#2
  desNsk := 0#5
  err := 0#4
  cmdLast := 0#32
  pending := []
  responses := []
  busFault := false

end Sys2Proof.Machine
end

