-- ==== Sys2Proof/Machine/Ops.lean ====
section
/-! DEFINITION. The named operations under the commands: the bytes and words of a block (00_scope.md R12, 10_state.md R33),
the bit permutation engine (43_des_round.md R180), and how a command ends, with success or with an error code
(60_exceptions.md R301, R302: the core's form of taking an exception). -/

namespace Sys2Proof.Machine

/-! ## Bytes and words of a block -/

/-- Byte i of a block: `s[i] = V[127-8i : 120-8i]` (00_scope.md R12). -/
def byteAt (v : Block) (i : Nat) : Byte := v.extractLsb' (120 - 8 * i) 8

/-- The block whose byte i is `f i`, byte 0 the most significant (00_scope.md R12). -/
def ofBytes (f : Nat → Byte) : Block :=
  (f 0 ++ f 1 ++ f 2 ++ f 3 ++ f 4 ++ f 5 ++ f 6 ++ f 7 ++ f 8 ++ f 9 ++ f 10 ++ f 11 ++ f 12 ++ f 13 ++ f 14
    ++ f 15).setWidth 128

/-- Word j of a block: `V[127-32j : 96-32j]` (10_state.md R33), which is column j (R21). -/
def wordAt (v : Block) (j : Nat) : Word := v.extractLsb' (96 - 32 * j) 32

/-- `w0 ++ w1 ++ w2 ++ w3`: the block of four words, w0 the most significant (10_state.md R33). -/
def joinWords (w0 w1 w2 w3 : Word) : Block := (w0 ++ w1 ++ w2 ++ w3).setWidth 128

/-- Word j of the block replaced by x; the other words keep their values (10_state.md R34). -/
def setWordAt (v : Block) (j : Nat) (x : Word) : Block :=
  joinWords (if j = 0 then x else wordAt v 0) (if j = 1 then x else wordAt v 1)
    (if j = 2 then x else wordAt v 2) (if j = 3 then x else wordAt v 3)

/-- Byte j of a word: `w[j] = W[31-8j : 24-8j]` (00_scope.md R12). -/
def wordByte (w : Word) (j : Nat) : Byte := w.extractLsb' (24 - 8 * j) 8

/-- The word whose byte j is `f j`, byte 0 the most significant (00_scope.md R12). -/
def ofWordBytes (f : Nat → Byte) : Word := (f 0 ++ f 1 ++ f 2 ++ f 3).setWidth 32

/-- The high half `v[63:32]` of a 64-bit value (10_state.md R25, R33). -/
def hiHalf (v : DesBlock) : Word := v.extractLsb' 32 32

/-- The low half `v[31:0]` of a 64-bit value (10_state.md R25, R33). -/
def loHalf (v : DesBlock) : Word := v.extractLsb' 0 32

/-- `hi ++ lo`: the 64-bit value of two halves (10_state.md R25, R33). -/
def joinHalves (hi lo : Word) : DesBlock := (hi ++ lo).setWidth 64

/-! ## The permutation engine -/

/-- `permute(v, N, T)` (43_des_round.md R180): output position i is input position `T[i]`, positions counted from the most
significant bit (00_scope.md R11); m is the length of the table. -/
def permute {n : Nat} (m : Nat) (v : BitVec n) (table : List Nat) : BitVec m :=
  (BitVec.ofBoolListBE (table.map v.getMsbD)).setWidth m

/-! ## How a command ends -/

/-- The value of a result code in `ERR` (60_exceptions.md R300). -/
def errValue : ErrCode → BitVec 4
  | .ok => 0x0#4
  | .invalidKeySize => 0x1#4
  | .invalidBlockSize => 0x2#4
  | .invalidRoundCount => 0x3#4
  | .illegalCommand => 0x4#4
  | .noKeySchedule => 0x5#4

/-- `raise Error(code)`: the command stops and its only effect is `ERR <- code` (60_exceptions.md R301; `CMD_LAST` is
already written by 30_encoding.md R88). -/
def raise (code : ErrCode) (s : State) : State := { s with err := errValue code }

/-- A command that performed its semantics sets `ERR <- OK` (60_exceptions.md R302). -/
def succeed (s : State) : State := { s with err := errValue .ok }

end Sys2Proof.Machine
end

