-- ==== Sys2Proof/Machine/AesTables.lean ====
section
/-! DEFINITION. The AES constant tables (40_aes_round.md R104 to R110, 41_aes_keysched.md R143). The spec supplies their
entries from general knowledge of FIPS-197 (93_implementation_defined.md G1 to G6; PRESUMED, log entry 10). -/

namespace Sys2Proof.Machine

/-- `SBOX`, one block a row of the table of 40_aes_round.md R104: byte l of row h is `SBOX[16h + l]`. -/
def sboxRows : List Block :=
  [ 0x637c777bf26b6fc53001672bfed7ab76#128, 0xca82c97dfa5947f0add4a2af9ca472c0#128,
    0xb7fd9326363ff7cc34a5e5f171d83115#128, 0x04c723c31896059a071280e2eb27b275#128,
    0x09832c1a1b6e5aa0523bd6b329e32f84#128, 0x53d100ed20fcb15b6acbbe394a4c58cf#128,
    0xd0efaafb434d338545f9027f503c9fa8#128, 0x51a3408f929d38f5bcb6da2110fff3d2#128,
    0xcd0c13ec5f974417c4a77e3d645d1973#128, 0x60814fdc222a908846eeb814de5e0bdb#128,
    0xe0323a0a4906245cc2d3ac629195e479#128, 0xe7c8376d8dd54ea96c56f4ea657aae08#128,
    0xba78252e1ca6b4c6e8dd741f4bbd8b8a#128, 0x703eb5664803f60e613557b986c11d9e#128,
    0xe1f8981169d98e949b1e87e9ce5528df#128, 0x8ca1890dbfe6426841992d0fb054bb16#128 ]

/-- `INV_SBOX`, one block a row of the table of 40_aes_round.md R105. -/
def invSboxRows : List Block :=
  [ 0x52096ad53036a538bf40a39e81f3d7fb#128, 0x7ce339829b2fff87348e4344c4dee9cb#128,
    0x547b9432a6c2233dee4c950b42fac34e#128, 0x082ea16628d924b2765ba2496d8bd125#128,
    0x72f8f66486689816d4a45ccc5d65b692#128, 0x6c704850fdedb9da5e154657a78d9d84#128,
    0x90d8ab008cbcd30af7e45805b8b34506#128, 0xd02c1e8fca3f0f02c1afbd0301138a6b#128,
    0x3a9111414f67dcea97f2cfcef0b4e673#128, 0x96ac7422e7ad3585e2f937e81c75df6e#128,
    0x47f11a711d29c5896fb7620eaa18be1b#128, 0xfc563e4bc6d279209adbc0fe78cd5af4#128,
    0x1fdda8338807c731b11210592780ec5f#128, 0x60517fa919b54a0d2de57a9f93c99cef#128,
    0xa0e03b4dae2af5b0c8ebbb3c83539961#128, 0x172b047eba77d626e169146355210c7d#128 ]

/-- The entry of a 256-entry byte table at x: row `x[7:4]`, column `x[3:0]` (40_aes_round.md R104). -/
def lookupByte (rows : List Block) (x : Byte) : Byte :=
  byteAt (rows.getD (x.toNat / 16) 0#128) (x.toNat % 16)

/-- `SBOX[x]` (40_aes_round.md R104). -/
def sbox (x : Byte) : Byte := lookupByte sboxRows x

/-- `INV_SBOX[x]` (40_aes_round.md R105). -/
def invSbox (x : Byte) : Byte := lookupByte invSboxRows x

/-- `SHIFT[0..15]` (40_aes_round.md R107). -/
def shiftTable : List Nat := [0, 5, 10, 15, 4, 9, 14, 3, 8, 13, 2, 7, 12, 1, 6, 11]

/-- `INV_SHIFT[0..15]` (40_aes_round.md R108). -/
def invShiftTable : List Nat := [0, 13, 10, 7, 4, 1, 14, 11, 8, 5, 2, 15, 12, 9, 6, 3]

/-- `M`, the MixColumns matrix, row by row (40_aes_round.md R109). -/
def mixMatrix : List (List Byte) :=
  [ [0x02#8, 0x03#8, 0x01#8, 0x01#8],
    [0x01#8, 0x02#8, 0x03#8, 0x01#8],
    [0x01#8, 0x01#8, 0x02#8, 0x03#8],
    [0x03#8, 0x01#8, 0x01#8, 0x02#8] ]

/-- `Minv`, the InvMixColumns matrix, row by row (40_aes_round.md R110). -/
def invMixMatrix : List (List Byte) :=
  [ [0x0E#8, 0x0B#8, 0x0D#8, 0x09#8],
    [0x09#8, 0x0E#8, 0x0B#8, 0x0D#8],
    [0x0D#8, 0x09#8, 0x0E#8, 0x0B#8],
    [0x0B#8, 0x0D#8, 0x09#8, 0x0E#8] ]

/-- `X[r][k]` of a 4x4 matrix (40_aes_round.md R109). -/
def matrixAt (x : List (List Byte)) (r k : Nat) : Byte := (x.getD r []).getD k 0#8

/-- `RC[0..9]`, the round constants (41_aes_keysched.md R143). -/
def roundConstants : List Byte :=
  [0x01#8, 0x02#8, 0x04#8, 0x08#8, 0x10#8, 0x20#8, 0x40#8, 0x80#8, 0x1B#8, 0x36#8]

end Sys2Proof.Machine
end

