-- ==== Sys2Proof/Machine/Operands.lean ====
section
/-! DEFINITION. The operands a command's fields select: an entry of a register file (10_state.md R23, R26, R27) and the
triple-DES third key (45_des_cipher.md R243). -/

namespace Sys2Proof.Machine

/-- Entry i of a round key sequence (30_encoding.md R81). The checks of 60_exceptions.md R303 keep i within 0..10. -/
def roundKey (rk : Vector Block 11) (i : Nat) : Block := rk[i]?.getD 0#128

/-- Entry i of a subkey file (30_encoding.md R81). -/
def subkey (sk : Vector Subkey 16) (i : Nat) : Subkey := sk[i]?.getD 0#48

/-- `DES_KEY[ksel]` (30_encoding.md R84). The check of 30_encoding.md R89 keeps ksel within 0..2. -/
def selectKey (keys : Vector DesBlock 3) (ksel : BitVec 2) : DesBlock := keys[ksel.toNat]?.getD 0#64

/-- `k3sel = 2 if K3 = 1 else 0` (45_des_cipher.md R243). -/
def k3sel : TdesKeys → BitVec 2
  | .two => 0#2
  | .three => 2#2

end Sys2Proof.Machine
end

