-- ==== Sys2Proof/Machine/Flags.lean ====
section
/-! DEFINITION. STATUS and its flags (10_state.md R29), the checks of a command word and their order (60_exceptions.md
R303), and a command run under its checks (30_encoding.md R88). -/

namespace Sys2Proof.Machine

/-- What a host read of STATUS returns (10_state.md R29). -/
def statusWord (s : State) : Word :=
  (s.desNsk ++ s.desKsel ++ s.desKsdir.bit ++ BitVec.ofBool s.desKsv ++ 0b00#2 ++ s.aesKsdir.bit
    ++ BitVec.ofBool s.aesKsv ++ 0b0000#4 ++ s.err).setWidth 32

/-- The check of NR: "NR = 0 or NR > 16" is INVALID_ROUND_COUNT (60_exceptions.md R303). -/
def roundCountCheck (nr : BitVec 5) : ErrCode :=
  if nr = 0#5 ∨ 16 < nr.toNat then .invalidRoundCount else .ok

/-- The check of KSEL, then of NR, of a single-DES command that expands a key (60_exceptions.md R303): KSEL = 3 reports
ILLEGAL_COMMAND whatever NR is. -/
def keyAndRoundCheck (ksel : BitVec 2) (nr : BitVec 5) : ErrCode :=
  if ksel = 3#2 then .illegalCommand else roundCountCheck nr

/-- The checks of a command in their order, against the state before it (60_exceptions.md R303). The first two lines of
step 1 that concern fields are repeated here, so that a command with an illegal field fails the same way wherever it comes
from (DEDUCED, log entry 9). -/
def commandCheck (i : Instr) (s : State) : ErrCode :=
  match i with
  | .nop => .ok
  | .aesSub => .ok
  | .aesInvsub => .ok
  | .aesShift => .ok
  | .aesInvshift => .ok
  | .aesMix => .ok
  | .aesInvmix => .ok
  | .aesArk idx => if 10 < idx.toNat then .illegalCommand else if s.aesKsv then .ok else .noKeySchedule
  | .aesKeyexp _ => .ok
  | .aesEnc => .ok
  | .aesDec => .ok
  | .desIp => .ok
  | .desFp => .ok
  | .desSwap => .ok
  | .desRound idx => if s.desKsv = false ∨ s.desNsk.toNat ≤ idx.toNat then .noKeySchedule else .ok
  | .desKeyexp _ ksel nr => keyAndRoundCheck ksel nr
  | .desEnc ksel nr => keyAndRoundCheck ksel nr
  | .desDec ksel nr => keyAndRoundCheck ksel nr
  | .tdesEnc _ => .ok
  | .tdesDec _ => .ok

/-- A command under its checks (30_encoding.md R88): the error code alone when one fails (60_exceptions.md R301), and
otherwise the semantics, then `ERR <- OK` (R302). -/
def runChecked (i : Instr) (s : State) (semantics : State → State) : Host.Outcome State Fault Refusal :=
  match commandCheck i s with
  | .ok => .next (succeed (semantics s))
  | code => .next (raise code s)

end Sys2Proof.Machine
end

