-- ==== Sys2Proof/Machine/AesRound.lean ====
section
/-! DEFINITION. The AES round engine (40_aes_round.md): GF(2^8) arithmetic, the block functions, and the seven commands that
apply them to AES_STATE. Every result is computed from the whole of the old AES_STATE. -/

namespace Sys2Proof.Machine

/-! ## GF(2^8) (R100 to R103) -/

/-- `xtime(a)`: a times x, reduced by 0x1B when the high bit shifts out (R101, R102). -/
def xtime (a : Byte) : Byte := if a.getLsbD 7 then (a <<< 1) ^^^ 0x1B#8 else a <<< 1

/-- n iterations of R101's loop from accumulator acc. -/
def gfmulLoop : Nat → Byte → Byte → Byte → Byte
  | 0, acc, _, _ => acc
  | n + 1, acc, a, b => gfmulLoop n (if b.getLsbD 0 then acc ^^^ a else acc) (xtime a) (b >>> 1)

/-- `gfmul(a, b)`: the product in GF(2^8), eight iterations (R101). -/
def gfmul (a b : Byte) : Byte := gfmulLoop 8 0x00#8 a b

/-- `aff(x)`, the affine step of the algebraic S-box (R106). -/
def sboxAffine (x : Byte) : Byte :=
  x ^^^ x.rotateRight 4 ^^^ x.rotateRight 5 ^^^ x.rotateRight 6 ^^^ x.rotateRight 7 ^^^ 0x63#8

/-- `aff⁻¹(y)`, the affine step of the algebraic inverse S-box (R106). -/
def invSboxAffine (y : Byte) : Byte := y.rotateRight 2 ^^^ y.rotateRight 5 ^^^ y.rotateRight 7 ^^^ 0x05#8

/-! ## Block functions (R111 to R118) -/

/-- `MixCol(col, X)[r]` (R111). -/
def mixCol (col : Nat → Byte) (x : List (List Byte)) (r : Nat) : Byte :=
  gfmul (matrixAt x r 0) (col 0) ^^^ gfmul (matrixAt x r 1) (col 1)
    ^^^ gfmul (matrixAt x r 2) (col 2) ^^^ gfmul (matrixAt x r 3) (col 3)

/-- `MixCol` on every column with matrix X: byte `4c + r` (R116, R117). -/
def mixWith (x : List (List Byte)) (s : Block) : Block :=
  ofBytes fun i => mixCol (fun k => byteAt s (4 * (i / 4) + k)) x (i % 4)

/-- `SubBytes(s)` (R112). -/
def subBytes (s : Block) : Block := ofBytes fun i => sbox (byteAt s i)

/-- `InvSubBytes(s)` (R113). -/
def invSubBytes (s : Block) : Block := ofBytes fun i => invSbox (byteAt s i)

/-- `ShiftRows(s)` (R114). -/
def shiftRows (s : Block) : Block := ofBytes fun i => byteAt s (shiftTable.getD i 0)

/-- `InvShiftRows(s)` (R115). -/
def invShiftRows (s : Block) : Block := ofBytes fun i => byteAt s (invShiftTable.getD i 0)

/-- `MixColumns(s)` (R116). -/
def mixColumns (s : Block) : Block := mixWith mixMatrix s

/-- `InvMixColumns(s)` (R117). -/
def invMixColumns (s : Block) : Block := mixWith invMixMatrix s

/-- `AddRoundKey(s, k)`: "As a 128-bit value it is `s XOR k`" (R118). -/
def addRoundKey (s k : Block) : Block := s ^^^ k

/-! ## Commands (R120 to R126) -/

/-- AES_SUB (R120). -/
def execAesSub (s : State) : Host.Outcome State Fault Refusal :=
  runChecked .aesSub s fun s => { s with aesState := subBytes s.aesState }

/-- AES_INVSUB (R121). -/
def execAesInvsub (s : State) : Host.Outcome State Fault Refusal :=
  runChecked .aesInvsub s fun s => { s with aesState := invSubBytes s.aesState }

/-- AES_SHIFT (R122). -/
def execAesShift (s : State) : Host.Outcome State Fault Refusal :=
  runChecked .aesShift s fun s => { s with aesState := shiftRows s.aesState }

/-- AES_INVSHIFT (R123). -/
def execAesInvshift (s : State) : Host.Outcome State Fault Refusal :=
  runChecked .aesInvshift s fun s => { s with aesState := invShiftRows s.aesState }

/-- AES_MIX (R124). -/
def execAesMix (s : State) : Host.Outcome State Fault Refusal :=
  runChecked .aesMix s fun s => { s with aesState := mixColumns s.aesState }

/-- AES_INVMIX (R125). -/
def execAesInvmix (s : State) : Host.Outcome State Fault Refusal :=
  runChecked .aesInvmix s fun s => { s with aesState := invMixColumns s.aesState }

/-- AES_ARK (R126): AES_KSDIR is not checked. -/
def execAesArk (idx : BitVec 4) (s : State) : Host.Outcome State Fault Refusal :=
  runChecked (.aesArk idx) s fun s =>
    { s with aesState := addRoundKey s.aesState (roundKey s.aesRk idx.toNat) }

end Sys2Proof.Machine
end

