-- ==== Sys2Proof/Machine/AesKeysched.lean ====
section
/-! DEFINITION. The AES key scheduler (41_aes_keysched.md) and AES_KEYEXP. -/

namespace Sys2Proof.Machine

/-- `RotWord(w) = (w[1], w[2], w[3], w[0])` (R141). -/
def rotWord (w : Word) : Word := ofWordBytes fun j => wordByte w ((j + 1) % 4)

/-- `SubWord(w)`: each byte through the AES S-box (R142). -/
def subWord (w : Word) : Word := ofWordBytes fun j => sbox (wordByte w j)

/-- `g(w, i)`: RotWord, SubWord, and `RC[i]` XORed into the first byte only (R144). -/
def keyG (w : Word) (i : Nat) : Word :=
  subWord (rotWord w) ^^^ ofWordBytes fun j => if j = 0 then roundConstants.getD i 0#8 else 0#8

/-- `NextKey(p, i)`: the round key after p (R145). -/
def nextKey (p : Block) (i : Nat) : Block :=
  let n0 := keyG (wordAt p 3) i ^^^ wordAt p 0
  let n1 := wordAt p 1 ^^^ n0
  let n2 := wordAt p 2 ^^^ n1
  let n3 := wordAt p 3 ^^^ n2
  joinWords n0 n1 n2 n3

/-- `rk[k]` of the forward schedule: `rk[0] = K`, `rk[i+1] = NextKey(rk[i], i)` (R146). -/
def forwardKey (key : Block) : Nat → Block
  | 0 => key
  | i + 1 => nextKey (forwardKey key i) i

/-- `KeyExpFwd(K)`: 11 round keys (R146). -/
def keyExpFwd (key : Block) : Vector Block 11 := Vector.ofFn fun k => forwardKey key k.val

/-- `KeyExpDec(K)`: the forward list reversed, with InvMixColumns on entries 1..9 (R147). -/
def keyExpDec (key : Block) : Vector Block 11 :=
  Vector.ofFn fun k =>
    if k.val = 0 then forwardKey key 10
    else if k.val = 10 then forwardKey key 0
    else invMixColumns (forwardKey key (10 - k.val))

/-- `KeyExp(K, dir)` (R148). -/
def keyExp (key : Block) : Dir → Vector Block 11
  | .enc => keyExpFwd key
  | .dec => keyExpDec key

/-- Writes the schedule of the current AES_KEY into AES_RK and sets both flags (R149; also R162 and R163). -/
def writeAesSchedule (dir : Dir) (s : State) : State :=
  { s with aesRk := keyExp s.aesKey dir, aesKsv := true, aesKsdir := dir }

/-- AES_KEYEXP (R149). -/
def execAesKeyexp (dir : Dir) (s : State) : Host.Outcome State Fault Refusal :=
  runChecked (.aesKeyexp dir) s fun s => writeAesSchedule dir s

end Sys2Proof.Machine
end

