-- ==== Sys2Proof/Machine/AesCipher.lean ====
section
/-! DEFINITION. AES cipher sequencing (42_aes_cipher.md): AES_ENC and AES_DEC. The sequencer's round counter is internal
(R164, 10_state.md R39). -/

namespace Sys2Proof.Machine

/-- Round i of `Cipher`, i in 1..9 (R160). -/
def cipherRound (rk : Vector Block 11) (s : Block) (i : Nat) : Block :=
  addRoundKey (mixColumns (shiftRows (subBytes s))) (roundKey rk i)

/-- `Cipher(s, rk)`: Init, Round(1..9), FinalRound (R160). -/
def cipher (s : Block) (rk : Vector Block 11) : Block :=
  let t := [1, 2, 3, 4, 5, 6, 7, 8, 9].foldl (cipherRound rk) (addRoundKey s (roundKey rk 0))
  addRoundKey (shiftRows (subBytes t)) (roundKey rk 10)

/-- Round i of `InvCipher`, i in 1..9: InvMixColumns comes before AddRoundKey (R161, 90_conflicts.md C1). -/
def invCipherRound (dk : Vector Block 11) (s : Block) (i : Nat) : Block :=
  addRoundKey (invMixColumns (invShiftRows (invSubBytes s))) (roundKey dk i)

/-- `InvCipher(s, dk)` (R161). -/
def invCipher (s : Block) (dk : Vector Block 11) : Block :=
  let t := [1, 2, 3, 4, 5, 6, 7, 8, 9].foldl (invCipherRound dk) (addRoundKey s (roundKey dk 0))
  addRoundKey (invShiftRows (invSubBytes t)) (roundKey dk 10)

/-- AES_ENC (R162): the schedule and flags of `KeyExpFwd(AES_KEY)`, then the block through `Cipher`. -/
def execAesEnc (s : State) : Host.Outcome State Fault Refusal :=
  runChecked .aesEnc s fun s =>
    { writeAesSchedule .enc s with aesState := cipher s.aesState (keyExpFwd s.aesKey) }

/-- AES_DEC (R163): the schedule and flags of `KeyExpDec(AES_KEY)`, then the block through `InvCipher`. -/
def execAesDec (s : State) : Host.Outcome State Fault Refusal :=
  runChecked .aesDec s fun s =>
    { writeAesSchedule .dec s with aesState := invCipher s.aesState (keyExpDec s.aesKey) }

end Sys2Proof.Machine
end

