-- ==== Sys2Proof/Machine/Control.lean ====
section
/-! DEFINITION. The control family (46_control.md): NOP. -/

namespace Sys2Proof.Machine

/-- NOP (R260): nothing but the common steps, so `ERR <- OK`. -/
def execNop (s : State) : Host.Outcome State Fault Refusal := runChecked .nop s fun s => s

end Sys2Proof.Machine
end

