-- ==== Sys2Proof/Machine/DesRound.lean ====
section
/-! DEFINITION. The DES round engine (43_des_round.md): the S-box layer, the Feistel function and round, and the four
commands that apply them to DES_BLOCK. -/

namespace Sys2Proof.Machine

/-- `Sj(g)` for the box of group j (R186): row `2·g[5] + g[0]`, column `g[4:1]`. -/
def desSbox (j : Nat) (g : BitVec 6) : BitVec 4 :=
  let row := 2 * (g.getLsbD 5).toNat + (g.getLsbD 0).toNat
  let col := (g.extractLsb' 1 4).toNat
  BitVec.ofNat 4 (((desBox j).getD row []).getD col 0)

/-- Group j of a 48-bit value: `x[47-6j : 42-6j]` (R187). -/
def sixBits (x : Subkey) (j : Nat) : BitVec 6 := x.extractLsb' (42 - 6 * j) 6

/-- `SLayer(x)`: group j through S(j+1), group 0 most significant (R187). -/
def sLayer (x : Subkey) : Word :=
  (desSbox 0 (sixBits x 0) ++ desSbox 1 (sixBits x 1) ++ desSbox 2 (sixBits x 2) ++ desSbox 3 (sixBits x 3)
    ++ desSbox 4 (sixBits x 4) ++ desSbox 5 (sixBits x 5) ++ desSbox 6 (sixBits x 6) ++ desSbox 7 (sixBits x 7)).setWidth 32

/-- `f(R, K)`, the Feistel function (R188). -/
def feistelF (r : Word) (k : Subkey) : Word := permute 32 (sLayer (permute 48 r eTable ^^^ k)) pTable

/-- `FeistelRound(B, K) = R ++ (f(R, K) XOR L)` (R189). -/
def feistelRound (b : DesBlock) (k : Subkey) : DesBlock :=
  joinHalves (loHalf b) (feistelF (loHalf b) k ^^^ hiHalf b)

/-- `Swap(B) = B[31:0] ++ B[63:32]` (R190). -/
def swapHalves (b : DesBlock) : DesBlock := joinHalves (loHalf b) (hiHalf b)

/-- The initial permutation `permute(B, 64, IP)` (R181, R191). -/
def initialPerm (b : DesBlock) : DesBlock := permute 64 b ipTable

/-- The inverse initial permutation `permute(B, 64, FP)` (R182, R192). -/
def finalPerm (b : DesBlock) : DesBlock := permute 64 b fpTable

/-- DES_IP (R191). -/
def execDesIp (s : State) : Host.Outcome State Fault Refusal :=
  runChecked .desIp s fun s => { s with desBlock := initialPerm s.desBlock }

/-- DES_FP (R192). -/
def execDesFp (s : State) : Host.Outcome State Fault Refusal :=
  runChecked .desFp s fun s => { s with desBlock := finalPerm s.desBlock }

/-- DES_SWAP (R193). -/
def execDesSwap (s : State) : Host.Outcome State Fault Refusal :=
  runChecked .desSwap s fun s => { s with desBlock := swapHalves s.desBlock }

/-- DES_ROUND (R194): DES_KSDIR is not checked. -/
def execDesRound (idx : BitVec 4) (s : State) : Host.Outcome State Fault Refusal :=
  runChecked (.desRound idx) s fun s =>
    { s with desBlock := feistelRound s.desBlock (subkey s.desSk idx.toNat) }

end Sys2Proof.Machine
end

