-- ==== Sys2Proof/Machine/DesKeysched.lean ====
section
/-! DEFINITION. The DES and triple-DES key scheduler (44_des_keysched.md) and DES_KEYEXP. Parity bits are not read and no
key is refused (R225). -/

namespace Sys2Proof.Machine

/-- `rotl_28(h, k) = ((h << k) OR (h >> (28 - k))) AND 0x0FFFFFFF` (R223). -/
def rotl28 (h : BitVec 28) (k : Nat) : BitVec 28 := (h <<< k) ||| (h >>> (28 - k))

/-- The halves C and D after i rotations: PC1's halves, then `LS[0]`, `LS[1]`, ... in turn (R223, R224). -/
def keyHalves (key : DesBlock) : Nat → BitVec 28 × BitVec 28
  | 0 => ((permute 56 key pc1Table).extractLsb' 28 28, (permute 56 key pc1Table).extractLsb' 0 28)
  | i + 1 => (rotl28 (keyHalves key i).1 (shiftSchedule.getD i 0), rotl28 (keyHalves key i).2 (shiftSchedule.getD i 0))

/-- `g[i] = permute(C ++ D, 56, PC2)` after round i's rotation (R224). -/
def generatedKey (key : DesBlock) (i : Nat) : Subkey :=
  permute 48 ((keyHalves key (i + 1)).1 ++ (keyHalves key (i + 1)).2) pc2Table

/-- `KS(key, nr, dir)`: nr subkeys, in generation order or reversed (R224). -/
def keySchedule (key : DesBlock) (nr : Nat) : Dir → List Subkey
  | .enc => (List.range nr).map (generatedKey key)
  | .dec => ((List.range nr).map (generatedKey key)).reverse

/-- `WriteSchedule(ksel, nr, dir)`: the schedule into DES_SK, zero from entry nr on, and the four fields (R226). -/
def writeDesSchedule (ksel : BitVec 2) (nr : BitVec 5) (dir : Dir) (s : State) : State :=
  { s with
    desSk := Vector.ofFn fun k => (keySchedule (selectKey s.desKey ksel) nr.toNat dir).getD k.val 0#48
    desKsv := true
    desKsdir := dir
    desKsel := ksel
    desNsk := nr }

/-- DES_KEYEXP (R227). -/
def execDesKeyexp (dir : Dir) (ksel : BitVec 2) (nr : BitVec 5) (s : State) : Host.Outcome State Fault Refusal :=
  runChecked (.desKeyexp dir ksel nr) s fun s => writeDesSchedule ksel nr dir s

end Sys2Proof.Machine
end

