-- ==== Sys2Proof/Machine/DesCipher.lean ====
section
/-! DEFINITION. DES and triple-DES cipher sequencing (45_des_cipher.md): DES_ENC, DES_DEC, TDES_ENC and TDES_DEC. -/

namespace Sys2Proof.Machine

/-- `DESCrypt(B, key, nr, dir)` (R240): IP, one Feistel round per subkey in schedule order, Swap, FP. -/
def desCrypt (b : DesBlock) (key : DesBlock) (nr : Nat) (dir : Dir) : DesBlock :=
  finalPerm (swapHalves ((keySchedule key nr dir).foldl feistelRound (initialPerm b)))

/-- DES_ENC (R241). -/
def execDesEnc (ksel : BitVec 2) (nr : BitVec 5) (s : State) : Host.Outcome State Fault Refusal :=
  runChecked (.desEnc ksel nr) s fun s =>
    { writeDesSchedule ksel nr .enc s with
      desBlock := desCrypt s.desBlock (selectKey s.desKey ksel) nr.toNat .enc }

/-- DES_DEC (R242). -/
def execDesDec (ksel : BitVec 2) (nr : BitVec 5) (s : State) : Host.Outcome State Fault Refusal :=
  runChecked (.desDec ksel nr) s fun s =>
    { writeDesSchedule ksel nr .dec s with
      desBlock := desCrypt s.desBlock (selectKey s.desKey ksel) nr.toNat .dec }

/-- `encrypt(decrypt(encrypt(B, k1), k2), k3)`, 16 rounds a pass (R244, R246). -/
def tdesEncrypt (keys : Vector DesBlock 3) (form : TdesKeys) (b : DesBlock) : DesBlock :=
  let t1 := desCrypt b (selectKey keys 0#2) 16 .enc
  let t2 := desCrypt t1 (selectKey keys 1#2) 16 .dec
  desCrypt t2 (selectKey keys (k3sel form)) 16 .enc

/-- `decrypt(encrypt(decrypt(B, k3), k2), k1)`, 16 rounds a pass (R245, R246). -/
def tdesDecrypt (keys : Vector DesBlock 3) (form : TdesKeys) (b : DesBlock) : DesBlock :=
  let t1 := desCrypt b (selectKey keys (k3sel form)) 16 .dec
  let t2 := desCrypt t1 (selectKey keys 1#2) 16 .enc
  desCrypt t2 (selectKey keys 0#2) 16 .dec

/-- TDES_ENC (R244): DES_SK is left holding the schedule of the last pass. -/
def execTdesEnc (form : TdesKeys) (s : State) : Host.Outcome State Fault Refusal :=
  runChecked (.tdesEnc form) s fun s =>
    { writeDesSchedule (k3sel form) 16#5 .enc s with desBlock := tdesEncrypt s.desKey form s.desBlock }

/-- TDES_DEC (R245): DES_SK is left holding the schedule of the last pass, under k1. -/
def execTdesDec (form : TdesKeys) (s : State) : Host.Outcome State Fault Refusal :=
  runChecked (.tdesDec form) s fun s =>
    { writeDesSchedule 0#2 16#5 .dec s with desBlock := tdesDecrypt s.desKey form s.desBlock }

end Sys2Proof.Machine
end

