-- ==== Sys2Proof/Machine/Dispatch.lean ====
section
/-! DEFINITION. One arm per command (30_encoding.md R87): what a command does to the state once CMD_LAST is written. -/

namespace Sys2Proof.Machine

def exec (i : Instr) (s : State) : Host.Outcome State Fault Refusal :=
  match i with
  | .nop => Sys2Proof.Machine.execNop s
  | .aesSub => Sys2Proof.Machine.execAesSub s
  | .aesInvsub => Sys2Proof.Machine.execAesInvsub s
  | .aesShift => Sys2Proof.Machine.execAesShift s
  | .aesInvshift => Sys2Proof.Machine.execAesInvshift s
  | .aesMix => Sys2Proof.Machine.execAesMix s
  | .aesInvmix => Sys2Proof.Machine.execAesInvmix s
  | .aesArk idx => Sys2Proof.Machine.execAesArk idx s
  | .aesKeyexp dir => Sys2Proof.Machine.execAesKeyexp dir s
  | .aesEnc => Sys2Proof.Machine.execAesEnc s
  | .aesDec => Sys2Proof.Machine.execAesDec s
  | .desIp => Sys2Proof.Machine.execDesIp s
  | .desFp => Sys2Proof.Machine.execDesFp s
  | .desSwap => Sys2Proof.Machine.execDesSwap s
  | .desRound idx => Sys2Proof.Machine.execDesRound idx s
  | .desKeyexp dir ksel nr => Sys2Proof.Machine.execDesKeyexp dir ksel nr s
  | .desEnc ksel nr => Sys2Proof.Machine.execDesEnc ksel nr s
  | .desDec ksel nr => Sys2Proof.Machine.execDesDec ksel nr s
  | .tdesEnc form => Sys2Proof.Machine.execTdesEnc form s
  | .tdesDec form => Sys2Proof.Machine.execTdesDec form s

end Sys2Proof.Machine
end

