-- ==== Sys2Proof/Config.lean ====
section
/-! DEFINITION. The parameters the spec leaves OPEN (00_scope.md R7, 93_implementation_defined.md I1 and I2). They have no
body, so no proof can rest on a value of theirs. No behaviour of the core depends on them (20_memory.md R61,
70_reset_and_hazards.md R351); the spec leaves no result open, so there is no free value here
(log entries 6 and 7). -/

namespace Sys2Proof

/-- Which 1024-byte page of the host's physical address space holds the register window (20_memory.md R61, OPEN). -/
opaque Config.coreBasePage : Nat

/-- `CORE_BASE`, the byte address of the window: "a multiple of 1024" (20_memory.md R61). -/
def Config.coreBase : Nat := 1024 * Config.coreBasePage

/-- `LAT(op, NR)` of a command that succeeds, in clock cycles (70_reset_and_hazards.md R350, OPEN): a function of the
command's OPC and its NR field, so of nothing else. -/
opaque Config.lat (op : BitVec 8) (nr : BitVec 5) : Nat

/-- The latency of a failed command: it "depends only on w" (70_reset_and_hazards.md R350, OPEN). -/
opaque Config.latFailed (w : Word) : Nat

end Sys2Proof
end

