-- ==== Sys2Proof/Machine/Window.lean ====
section
/-! DEFINITION. The register window (10_state.md R32 to R37): which register stands at an offset, what a host read of it
returns, and what a host write to it does. CMD's write side effect is in Machine/Bus.lean. -/

namespace Sys2Proof.Machine

/-- `ID_VALUE`, "CRYP" (10_state.md R36). -/
def idValue : Word := 0x43525950#32

/-- The registers of the map (10_state.md R32), one per 32-bit offset. -/
inductive Reg where
  | id
  | cmd
  | status
  | aesState (j : Fin 4)
  | aesKey (j : Fin 4)
  | desBlockHi
  | desBlockLo
  /-- `DES_KEY[n]` bits 63:32, the host's DES_KEY(n+1)_HI. -/
  | desKeyHi (n : Fin 3)
  /-- `DES_KEY[n]` bits 31:0, the host's DES_KEY(n+1)_LO. -/
  | desKeyLo (n : Fin 3)
  | aesRk (k : Fin 11) (j : Fin 4)
  | desSkHi (k : Fin 16)
  | desSkLo (k : Fin 16)
  /-- Every offset the map does not list (R35). -/
  | reserved
deriving DecidableEq, Repr

/-- The register at a 32-bit aligned offset (10_state.md R32). -/
def regAt (off : Nat) : Reg :=
  if off < 0x010 then (if off = 0x000 then .id else if off = 0x004 then .cmd else if off = 0x008 then .status else .reserved)
  else if off < 0x020 then .aesState (Fin.ofNat 4 ((off - 0x010) / 4))
  else if off < 0x030 then .aesKey (Fin.ofNat 4 ((off - 0x020) / 4))
  else if off < 0x040 then (if off = 0x030 then .desBlockHi else if off = 0x034 then .desBlockLo else .reserved)
  else if off < 0x058 then
    (if off % 8 = 0 then .desKeyHi (Fin.ofNat 3 ((off - 0x040) / 8)) else .desKeyLo (Fin.ofNat 3 ((off - 0x040) / 8)))
  else if off < 0x100 then .reserved
  else if off < 0x1B0 then .aesRk (Fin.ofNat 11 ((off - 0x100) / 16)) (Fin.ofNat 4 (off % 16 / 4))
  else if off < 0x200 then .reserved
  else if off < 0x280 then
    (if off % 8 = 0 then .desSkHi (Fin.ofNat 16 ((off - 0x200) / 8)) else .desSkLo (Fin.ofNat 16 ((off - 0x200) / 8)))
  else .reserved

/-- The offset of a named register (10_state.md R32); a reserved offset has no name. -/
def regOffset : Reg → Option Nat
  | .id => some 0x000
  | .cmd => some 0x004
  | .status => some 0x008
  | .aesState j => some (0x010 + 4 * j.val)
  | .aesKey j => some (0x020 + 4 * j.val)
  | .desBlockHi => some 0x030
  | .desBlockLo => some 0x034
  | .desKeyHi n => some (0x040 + 8 * n.val)
  | .desKeyLo n => some (0x044 + 8 * n.val)
  | .aesRk k j => some (0x100 + 16 * k.val + 4 * j.val)
  | .desSkHi k => some (0x200 + 8 * k.val)
  | .desSkLo k => some (0x204 + 8 * k.val)
  | .reserved => none

/-- The data a host read of a register returns (10_state.md R29, R31 to R36). No read changes the state (20_memory.md R67). -/
def readReg (r : Reg) (s : State) : Word :=
  match r with
  | .id => idValue
  | .cmd => s.cmdLast
  | .status => statusWord s
  | .aesState j => wordAt s.aesState j.val
  | .aesKey j => wordAt s.aesKey j.val
  | .desBlockHi => hiHalf s.desBlock
  | .desBlockLo => loHalf s.desBlock
  | .desKeyHi n => hiHalf s.desKey[n]
  | .desKeyLo n => loHalf s.desKey[n]
  | .aesRk k j => wordAt s.aesRk[k] j.val
  | .desSkHi k => (s.desSk[k].extractLsb' 32 16).setWidth 32
  | .desSkLo k => s.desSk[k].extractLsb' 0 32
  | .reserved => 0x00000000#32

/-- The registers a host write of v to a register leaves (10_state.md R31 to R37): one word changes, a key word also clears
its valid flag (R37), and a write to a read-only or reserved offset is ignored (R35). For CMD this is its data part alone,
`CMD_LAST <- v` (R31). -/
def writeReg (r : Reg) (v : Word) (s : State) : State :=
  match r with
  | .id => s
  | .cmd => { s with cmdLast := v }
  | .status => s
  | .aesState j => { s with aesState := setWordAt s.aesState j.val v }
  | .aesKey j => { s with aesKey := setWordAt s.aesKey j.val v, aesKsv := false }
  | .desBlockHi => { s with desBlock := joinHalves v (loHalf s.desBlock) }
  | .desBlockLo => { s with desBlock := joinHalves (hiHalf s.desBlock) v }
  | .desKeyHi n =>
    { s with desKey := s.desKey.set n.val (joinHalves v (loHalf s.desKey[n])) n.isLt, desKsv := false }
  | .desKeyLo n =>
    { s with desKey := s.desKey.set n.val (joinHalves (hiHalf s.desKey[n]) v) n.isLt, desKsv := false }
  | .aesRk _ _ => s
  | .desSkHi _ => s
  | .desSkLo _ => s
  | .reserved => s

/-- `HostRead(off)` (20_memory.md R62). -/
def hostRead (off : BitVec 10) (s : State) : Word := readReg (regAt off.toNat) s

/-- The offset the core decodes from a byte address of the host, `addr - CORE_BASE`, when the address is in the window
(20_memory.md R61). -/
def windowOffset (addr : Nat) : Option (BitVec 10) :=
  if Config.coreBase ≤ addr ∧ addr < Config.coreBase + 1024 then some (BitVec.ofNat 10 (addr - Config.coreBase)) else none

end Sys2Proof.Machine
end

