-- ==== Sys2Proof/Machine/Bus.lean ====
section
/-! DEFINITION. The port (20_memory.md R62 to R69): a command word written to CMD (30_encoding.md R88), a transaction, a
reset, and the next host event. -/

namespace Sys2Proof.Machine

/-- A write of w to CMD (30_encoding.md R88): `CMD_LAST <- w`, decode, and the command, or ILLEGAL_COMMAND. -/
def runCommandWord (w : Word) (s : State) : Host.Outcome State Fault Refusal :=
  match decode w with
  | .illegal _ => .next (raise .illegalCommand (writeReg .cmd w s))
  | .ok i => exec i (writeReg .cmd w s)

/-- `HostWrite(off, v)` (20_memory.md R62, R68): a write to CMD runs a command, every other write is `writeReg`. -/
def hostWrite (off : BitVec 10) (v : Word) (s : State) : Host.Outcome State Fault Refusal :=
  match regAt off.toNat with
  | .cmd => runCommandWord v s
  | r => .next (writeReg r v s)

/-- The response is given (20_memory.md R75). -/
def respond (r : Response) (s : State) : State := { s with responses := r :: s.responses }

/-- The response to a write is given only after the write, and so its command, is done (20_memory.md R66). -/
def respondAfter (o : Host.Outcome State Fault Refusal) : Host.Outcome State Fault Refusal :=
  match o with
  | .next s => .next (respond .done s)
  | .fault f => .fault f
  | .refused r => .refused r

/-- A transaction the core defines: 32 bits at an offset that is a multiple of 4 (20_memory.md R62, R63). A partial
byte-enable mask is a size other than 2 (DEDUCED, log entry 8). -/
def legalTransaction (t : Transaction) : Bool := t.size == 2#2 && t.addr.toNat % 4 == 0

/-- `raise BusError` (20_memory.md R63): an error response and no other effect; the fault of the host program is recorded
and never cleared (DESIGN CHOICE, log entry 2). -/
def busError (s : State) : State := { respond .busError s with busFault := true }

/-- The core performs one transaction (20_memory.md R62, R63, R69). -/
def performTransaction (t : Transaction) (s : State) : Host.Outcome State Fault Refusal :=
  if legalTransaction t then
    if t.write then respondAfter (hostWrite t.addr t.wdata s)
    else .next (respond (.data (hostRead t.addr s)) s)
  else .next (busError s)

/-- `rst` asserted and released (70_reset_and_hazards.md R340): every register holds its reset value; what the host has
still to do, what it has read and its recorded fault are the host's and stay (DESIGN CHOICE, log entry 3); the two edges
of `rst` are one event (DEDUCED, log entry 4). -/
def applyReset (s : State) : State :=
  { State.reset with pending := s.pending, responses := s.responses, busFault := s.busFault }

/-- The core meets one host event. -/
def performEvent (e : HostEvent) (s : State) : Host.Outcome State Fault Refusal :=
  match e with
  | .access t => performTransaction t s
  | .reset => .next (applyReset s)

/-- The next event is accepted and performed, "one at a time, in the order it accepts them" (20_memory.md R69); with none
offered the core does nothing: it "never starts an action of its own" (00_scope.md R9; DEDUCED, log entry 15). Nothing is reordered,
repeated or timed out (DESIGN CHOICE, log entries 11 and 12). -/
def acceptNext (s : State) : Host.Outcome State Fault Refusal :=
  match s.pending with
  | [] => .next s
  | e :: rest => performEvent e { s with pending := rest }

/-- `HostWrite(off, v)` as an event at the port. -/
def writeEvent (off : BitVec 10) (v : Word) : HostEvent := .access ⟨true, off, 2#2, v⟩

/-- `HostRead(off)` as an event at the port. -/
def readEvent (off : BitVec 10) : HostEvent := .access ⟨false, off, 2#2, 0#32⟩

/-- A command: `HostWrite(0x004, w)` (30_encoding.md R93). -/
def commandEvent (w : Word) : HostEvent := writeEvent 0x004#10 w

/-- The command word that spec/opcode_table.json numbers nbits, w: every command has 32 bits (30_encoding.md R90), and the
bits above nbits are 0. -/
def tableWord (nbits w : Nat) : Word := BitVec.ofNat 32 (w % 2 ^ nbits)

end Sys2Proof.Machine
end

