-- ==== Sys2Proof/Machine/Step.lean ====
section
/-! DEFINITION. One step of the machine: the core accepts and performs the host's next event (00_scope.md R8). -/

namespace Sys2Proof.Machine

/-- One step (20_memory.md R69): it only calls `acceptNext`. -/
def step (s : State) : Host.Outcome State Fault Refusal := acceptNext s

/-- The state in which the host's very next transaction writes the command word to CMD. The core fetches nothing
(20_memory.md R73): a command comes to run by being written (DESIGN CHOICE, log entry 5). -/
def State.withFetchWord (s : State) (nbits w : Nat) : State :=
  { s with pending := commandEvent (tableWord nbits w) :: s.pending }

end Sys2Proof.Machine
end

