-- ==== Sys2Proof/Machine/Program.lean ====
section
/-! DEFINITION. The assembler's lines (30_encoding.md R91), its pseudo-instructions (R92), the host program notation (R93),
and a list of commands run one after another (42_aes_cipher.md R165). The lines are given as syntax trees; `asmText` and its
neighbours spell them as the spec does; there is no parser (DESIGN CHOICE, log entry 16). -/

namespace Sys2Proof.Machine

/-- A line that assembles to one command word (R91); operands are the decimal numbers written, in range or not. -/
inductive AsmOp where
  | nop
  | aesSub
  | aesInvsub
  | aesShift
  | aesInvshift
  | aesMix
  | aesInvmix
  | aesArk (i : Nat)
  | aesKeyexp (dir : Dir)
  | aesEnc
  | aesDec
  | desIp
  | desFp
  | desSwap
  | desRound (i : Nat)
  /-- `key` is 0 for k1, 1 for k2, 2 for k3; `nr` may be left out. -/
  | desKeyexp (key : Fin 3) (dir : Dir) (nr : Option Nat)
  | desEnc (key : Fin 3) (nr : Option Nat)
  | desDec (key : Fin 3) (nr : Option Nat)
  | tdesEnc (form : TdesKeys)
  | tdesDec (form : TdesKeys)
  /-- `cmd.raw <hex>`: any word, legal or not. -/
  | raw (w : Word)
deriving DecidableEq, Repr

/-- A line of the assembler: one command, or a pseudo-instruction (R92). -/
inductive AsmLine where
  | op (o : AsmOp)
  | aesRound (i : Nat)
  | aesLast (i : Nat)
  | aesInvround (i : Nat)
  | aesInvlast (i : Nat)
  | desRounds (n : Nat)
  | desFinal
deriving DecidableEq, Repr

/-- An operand `nr`: 1..16, 16 when left out, and none out of that range (R91). -/
def asmRounds (nr : Option Nat) : Option (BitVec 5) :=
  if 1 ≤ nr.getD 16 ∧ nr.getD 16 ≤ 16 then some (BitVec.ofNat 5 (nr.getD 16)) else none

/-- The word of a line, or none for "an assembler error" (R91). -/
def assembleOp (o : AsmOp) : Option Word :=
  match o with
  | .nop => some (encode .nop)
  | .aesSub => some (encode .aesSub)
  | .aesInvsub => some (encode .aesInvsub)
  | .aesShift => some (encode .aesShift)
  | .aesInvshift => some (encode .aesInvshift)
  | .aesMix => some (encode .aesMix)
  | .aesInvmix => some (encode .aesInvmix)
  | .aesArk i => if i ≤ 10 then some (encode (.aesArk (BitVec.ofNat 4 i))) else none
  | .aesKeyexp dir => some (encode (.aesKeyexp dir))
  | .aesEnc => some (encode .aesEnc)
  | .aesDec => some (encode .aesDec)
  | .desIp => some (encode .desIp)
  | .desFp => some (encode .desFp)
  | .desSwap => some (encode .desSwap)
  | .desRound i => if i ≤ 15 then some (encode (.desRound (BitVec.ofNat 4 i))) else none
  | .desKeyexp key dir nr => (asmRounds nr).map fun n => encode (.desKeyexp dir (BitVec.ofNat 2 key.val) n)
  | .desEnc key nr => (asmRounds nr).map fun n => encode (.desEnc (BitVec.ofNat 2 key.val) n)
  | .desDec key nr => (asmRounds nr).map fun n => encode (.desDec (BitVec.ofNat 2 key.val) n)
  | .tdesEnc form => some (encode (.tdesEnc form))
  | .tdesDec form => some (encode (.tdesDec form))
  | .raw w => some w

/-- The commands a line stands for, in order (R92). -/
def expandLine : AsmLine → List AsmOp
  | .op o => [o]
  | .aesRound i => [.aesSub, .aesShift, .aesMix, .aesArk i]
  | .aesLast i => [.aesSub, .aesShift, .aesArk i]
  | .aesInvround i => [.aesInvsub, .aesInvshift, .aesInvmix, .aesArk i]
  | .aesInvlast i => [.aesInvsub, .aesInvshift, .aesArk i]
  | .desRounds n => (List.range n).map .desRound
  | .desFinal => [.desSwap, .desFp]

/-- The command words of a line, in order; none if an operand is out of range (R91, R92). -/
def assembleLine (l : AsmLine) : Option (List Word) := (expandLine l).mapM assembleOp

/-! ## The spelling (R91 to R93) -/

/-- `<key>`: k1, k2 or k3. -/
def keyText (key : Fin 3) : String := "k" ++ toString (key.val + 1)

/-- `enc` or `dec`. -/
def dirText : Dir → String
  | .enc => "enc"
  | .dec => "dec"

/-- `2key` or `3key`. -/
def formText : TdesKeys → String
  | .two => "2key"
  | .three => "3key"

/-- The optional `, <nr>`. -/
def roundsText : Option Nat → String
  | none => ""
  | some n => ", " ++ toString n

/-- The hexadecimal digits of a number, most significant first, n of them. -/
def hexText (n v : Nat) : String :=
  String.ofList ((List.range n).reverse.map fun i => Nat.digitChar (v / 16 ^ i % 16))

/-- A line as R91 spells it. -/
def asmText : AsmOp → String
  | .nop => "nop"
  | .aesSub => "aes.sub"
  | .aesInvsub => "aes.invsub"
  | .aesShift => "aes.shift"
  | .aesInvshift => "aes.invshift"
  | .aesMix => "aes.mix"
  | .aesInvmix => "aes.invmix"
  | .aesArk i => "aes.ark " ++ toString i
  | .aesKeyexp dir => "aes.keyexp " ++ dirText dir
  | .aesEnc => "aes.enc"
  | .aesDec => "aes.dec"
  | .desIp => "des.ip"
  | .desFp => "des.fp"
  | .desSwap => "des.swap"
  | .desRound i => "des.round " ++ toString i
  | .desKeyexp key dir nr => "des.keyexp " ++ keyText key ++ ", " ++ dirText dir ++ roundsText nr
  | .desEnc key nr => "des.enc " ++ keyText key ++ roundsText nr
  | .desDec key nr => "des.dec " ++ keyText key ++ roundsText nr
  | .tdesEnc form => "tdes.enc " ++ formText form
  | .tdesDec form => "tdes.dec " ++ formText form
  | .raw w => "cmd.raw 0x" ++ hexText 8 w.toNat

/-- A pseudo-instruction as R92 spells it. -/
def lineText : AsmLine → String
  | .op o => asmText o
  | .aesRound i => "aes.round " ++ toString i
  | .aesLast i => "aes.last " ++ toString i
  | .aesInvround i => "aes.invround " ++ toString i
  | .aesInvlast i => "aes.invlast " ++ toString i
  | .desRounds n => "des.rounds " ++ toString n
  | .desFinal => "des.final"

/-- A register's name in host notation, "with a word or entry number appended" (R93); reserved offsets have none. -/
def regText : Reg → Option String
  | .id => some "ID"
  | .cmd => some "CMD"
  | .status => some "STATUS"
  | .aesState j => some ("AES_STATE" ++ toString j.val)
  | .aesKey j => some ("AES_KEY" ++ toString j.val)
  | .desBlockHi => some "DES_BLOCK_HI"
  | .desBlockLo => some "DES_BLOCK_LO"
  | .desKeyHi n => some ("DES_KEY" ++ toString (n.val + 1) ++ "_HI")
  | .desKeyLo n => some ("DES_KEY" ++ toString (n.val + 1) ++ "_LO")
  | .aesRk k j => some ("AES_RK" ++ toString k.val ++ "_" ++ toString j.val)
  | .desSkHi k => some ("DES_SK" ++ toString k.val ++ "_HI")
  | .desSkLo k => some ("DES_SK" ++ toString k.val ++ "_LO")
  | .reserved => none

/-! ## Host programs (R93) -/

/-- A line of a host program (R93). -/
inductive HostLine where
  | write (r : Reg) (v : Word)
  /-- `read <REG>`, with the optional value the rules give. -/
  | read (r : Reg) (expected : Option Word)
  | command (l : AsmLine)
  | loadAesState (v : Block)
  | loadAesKey (v : Block)
  | loadDesBlock (v : DesBlock)
  /-- `load.des_key <n+1>, <v64>`. -/
  | loadDesKey (n : Fin 3) (v : DesBlock)
deriving DecidableEq, Repr

/-- `HostWrite(off(REG), value)`. -/
def writeLine (r : Reg) (v : Word) : Option HostEvent := (regOffset r).map fun off => writeEvent (BitVec.ofNat 10 off) v

/-- The transactions of a host program's line, in order (R93); none where a register or an operand has no name. -/
def hostEvents (l : HostLine) : Option (List HostEvent) :=
  match l with
  | .write r v => (writeLine r v).map fun e => [e]
  | .read r _ => (regOffset r).map fun off => [readEvent (BitVec.ofNat 10 off)]
  | .command l => (assembleLine l).map fun ws => ws.map commandEvent
  | .loadAesState v => [0, 1, 2, 3].mapM fun j => writeLine (.aesState (Fin.ofNat 4 j)) (wordAt v j)
  | .loadAesKey v => [0, 1, 2, 3].mapM fun j => writeLine (.aesKey (Fin.ofNat 4 j)) (wordAt v j)
  | .loadDesBlock v => [(Reg.desBlockHi, hiHalf v), (Reg.desBlockLo, loHalf v)].mapM fun p => writeLine p.1 p.2
  | .loadDesKey n v => [(Reg.desKeyHi n, hiHalf v), (Reg.desKeyLo n, loHalf v)].mapM fun p => writeLine p.1 p.2

/-- The transactions of a host program, "a straight-line list of transactions" (R93). -/
def hostProgram (ls : List HostLine) : Option (List HostEvent) := (ls.mapM hostEvents).map List.flatten

/-! ## Command sequences -/

/-- Commands run one after another, stopping at the first that does not answer a next state. -/
def execAll : List Instr → State → Host.Outcome State Fault Refusal
  | [], s => .next s
  | i :: is, s =>
    match exec i s with
    | .next t => execAll is t
    | .fault f => .fault f
    | .refused r => .refused r

/-- `aes.round i` as commands (R92). -/
def aesRoundCommands (i : Nat) : List Instr := [.aesSub, .aesShift, .aesMix, .aesArk (BitVec.ofNat 4 i)]

/-- `aes.invround i` as commands (R92). -/
def aesInvroundCommands (i : Nat) : List Instr := [.aesInvsub, .aesInvshift, .aesInvmix, .aesArk (BitVec.ofNat 4 i)]

/-- The step-wise encryption of 42_aes_cipher.md R165. -/
def stepwiseEncrypt : List Instr :=
  [.aesKeyexp .enc, .aesArk 0#4] ++ ([1, 2, 3, 4, 5, 6, 7, 8, 9].map aesRoundCommands).flatten
    ++ [.aesSub, .aesShift, .aesArk 10#4]

/-- The step-wise decryption of 42_aes_cipher.md R165. -/
def stepwiseDecrypt : List Instr :=
  [.aesKeyexp .dec, .aesArk 0#4] ++ ([1, 2, 3, 4, 5, 6, 7, 8, 9].map aesInvroundCommands).flatten
    ++ [.aesInvsub, .aesInvshift, .aesArk 10#4]

/-- The step-wise DES of 45_des_cipher.md R247, NR rounds in direction dir. -/
def stepwiseDes (dir : Dir) (ksel : BitVec 2) (nr : BitVec 5) : List Instr :=
  [.desKeyexp dir ksel nr, .desIp] ++ (List.range nr.toNat).map (fun k => .desRound (BitVec.ofNat 4 k))
    ++ [.desSwap, .desFp]

end Sys2Proof.Machine
end

