-- ==== Sys2Proof/Safety.lean ====
section
/-! DEFINITION. What claims speak of: a host program without a bus error, the end of a run (70_reset_and_hazards.md R352),
and the invariants of the schedules and of the result code (10_state.md R42, R43, 60_exceptions.md R300). -/

namespace Sys2Proof.Machine

/-- "No bus error", the premise a claim about a run takes (20_memory.md R63, 70_reset_and_hazards.md R352). -/
abbrev NoBusError (s : State) : Prop := s.busFault = false

/-- The run is over: the host has issued its last transaction (70_reset_and_hazards.md R352). -/
abbrev RunOver (s : State) : Prop := s.pending = []

/-- The AES invariant (10_state.md R42). -/
abbrev AesScheduleInv (s : State) : Prop :=
  s.aesKsv = true → ∀ k, k < 11 → roundKey s.aesRk k = roundKey (keyExp s.aesKey s.aesKsdir) k

/-- The DES invariant (10_state.md R43), with the ranges of R29 that hold whatever DES_KSV is. -/
abbrev DesScheduleInv (s : State) : Prop :=
  s.desKsel ≠ 3#2 ∧ s.desNsk.toNat ≤ 16 ∧
  (∀ k, k < 16 → s.desNsk.toNat ≤ k → subkey s.desSk k = 0#48) ∧
  (s.desKsv = true → 1 ≤ s.desNsk.toNat ∧
    ∀ k, k < s.desNsk.toNat →
      subkey s.desSk k = (keySchedule (selectKey s.desKey s.desKsel) s.desNsk.toNat s.desKsdir).getD k 0#48)

/-- ERR holds a code that some command writes (60_exceptions.md R300): OK, INVALID_ROUND_COUNT, ILLEGAL_COMMAND or
NO_KEY_SCHEDULE. -/
abbrev ErrCodeInv (s : State) : Prop :=
  s.err = 0x0#4 ∨ s.err = 0x3#4 ∨ s.err = 0x4#4 ∨ s.err = 0x5#4

/-- The result code of the checks of a word, step 1 and then step 2 (60_exceptions.md R303), against the state before it. -/
def wordCheck (w : Word) (s : State) : ErrCode :=
  match decode w with
  | .illegal _ => .illegalCommand
  | .ok i => commandCheck i s

/-- The effect of an illegal word (30_encoding.md R89): ILLEGAL_COMMAND and no effect but CMD_LAST and ERR. -/
abbrev IllegalEffect (w : Word) : Prop :=
  ∀ s : State, runCommandWord w s = .next { s with cmdLast := w, err := 0x4#4 }

end Sys2Proof.Machine
end

