-- ==== Sys2Proof/Certificates/Slice0/Obligations.lean ====
section
/-! DEFINITION. The statements for the provers. Each docstring says which rule of spec/ its statement formalises. -/

open Sys2Proof Sys2Proof.Machine

/-! ## Encoding (30_encoding.md) -/

/-- 30_encoding.md R80 to R87: every well-formed command's word decodes to it, every field at every value. -/
def Obligations.DecodeOfEncodeIsTheCommand : Prop :=
  ∀ i : Instr, i.wellFormed = true → decode (encode i) = .ok i

/-- 30_encoding.md R86, R87: a word that decodes is the word of its command, so no bit of a legal word is ignored. -/
def Obligations.EncodeOfDecodeIsTheWord : Prop :=
  ∀ (w : Word) (i : Instr), decode w = .ok i → encode i = w ∧ i.wellFormed = true

/-- 30_encoding.md R89: exactly when a word is illegal, and that it then fails with ILLEGAL_COMMAND and no effect but
CMD_LAST and ERR. -/
def Obligations.IllegalWordsAreExactlyTheListedOnes : Prop :=
  ∀ w : Word,
    ((∃ e, decode w = .illegal e) ↔
      (opcOf w ∉ assignedOpcodes ∨ w &&& mustBeZero (opcOf w) ≠ 0#32 ∨
        (opcOf w = 0x16#8 ∧ 11 ≤ (idxOf w).toNat) ∨
        (opcOf w ∈ [0x50#8, 0x60#8, 0x61#8] ∧ kselOf w = 3#2))) ∧
    ((∃ e, decode w = .illegal e) → IllegalEffect w)

/-- 30_encoding.md R91 and 95_test_vectors.md: some words decode to the commands they stand for, and some do not decode. -/
def Obligations.SampleWordsDecode : Prop :=
  decode 0x00000000#32 = .ok .nop ∧
  decode 0x00000014#32 = .ok .aesMix ∧
  decode 0x00000A16#32 = .ok (.aesArk 10#4) ∧
  decode 0x00001020#32 = .ok (.aesKeyexp .dec) ∧
  decode 0x00000031#32 = .ok .aesDec ∧
  decode 0x00000F43#32 = .ok (.desRound 15#4) ∧
  decode 0x00101050#32 = .ok (.desKeyexp .dec 0#2 16#5) ∧
  decode 0x00104060#32 = .ok (.desEnc 1#2 16#5) ∧
  decode 0x001F0061#32 = .ok (.desDec 0#2 31#5) ∧
  decode 0x00002070#32 = .ok (.tdesEnc .three) ∧
  decode 0x00000B16#32 = .illegal .arkIndex ∧
  decode 0x0010C050#32 = .illegal .keySelect ∧
  decode 0x80000010#32 = .illegal .noRow

/-- 30_encoding.md R91: each line's word, the default of 16 rounds, and the operands that are an assembler error. -/
def Obligations.AssemblerLinesGiveTheirWords : Prop :=
  assembleOp .nop = some 0x00000000#32 ∧
  [AsmOp.aesSub, .aesInvsub, .aesShift, .aesInvshift, .aesMix, .aesInvmix].map assembleOp =
    [some 0x10#32, some 0x11#32, some 0x12#32, some 0x13#32, some 0x14#32, some 0x15#32] ∧
  (∀ i, assembleOp (.aesArk i) = if i ≤ 10 then some (0x16#32 ||| BitVec.ofNat 32 i <<< 8) else none) ∧
  assembleOp (.aesKeyexp .enc) = some 0x00000020#32 ∧ assembleOp (.aesKeyexp .dec) = some 0x00001020#32 ∧
  assembleOp .aesEnc = some 0x30#32 ∧ assembleOp .aesDec = some 0x31#32 ∧
  assembleOp .desIp = some 0x40#32 ∧ assembleOp .desFp = some 0x41#32 ∧ assembleOp .desSwap = some 0x42#32 ∧
  (∀ i, assembleOp (.desRound i) = if i ≤ 15 then some (0x43#32 ||| BitVec.ofNat 32 i <<< 8) else none) ∧
  (∀ (key : Fin 3) (dir : Dir) (nr : Nat), assembleOp (.desKeyexp key dir (some nr)) =
    if 1 ≤ nr ∧ nr ≤ 16 then
      some (0x50#32 ||| dir.bit.setWidth 32 <<< 12 ||| BitVec.ofNat 32 key.val <<< 14 ||| BitVec.ofNat 32 nr <<< 16)
    else none) ∧
  (∀ (key : Fin 3) (nr : Nat), assembleOp (.desEnc key (some nr)) =
    if 1 ≤ nr ∧ nr ≤ 16 then some (0x60#32 ||| BitVec.ofNat 32 key.val <<< 14 ||| BitVec.ofNat 32 nr <<< 16) else none) ∧
  (∀ (key : Fin 3) (nr : Nat), assembleOp (.desDec key (some nr)) =
    if 1 ≤ nr ∧ nr ≤ 16 then some (0x61#32 ||| BitVec.ofNat 32 key.val <<< 14 ||| BitVec.ofNat 32 nr <<< 16) else none) ∧
  (∀ (key : Fin 3) (dir : Dir), assembleOp (.desKeyexp key dir none) = assembleOp (.desKeyexp key dir (some 16)) ∧
    assembleOp (.desEnc key none) = assembleOp (.desEnc key (some 16)) ∧
    assembleOp (.desDec key none) = assembleOp (.desDec key (some 16))) ∧
  assembleOp (.tdesEnc .two) = some 0x00000070#32 ∧ assembleOp (.tdesEnc .three) = some 0x00002070#32 ∧
  assembleOp (.tdesDec .two) = some 0x00000071#32 ∧ assembleOp (.tdesDec .three) = some 0x00002071#32 ∧
  (∀ w, assembleOp (.raw w) = some w)

/-! ## Running a command word (30_encoding.md R88, 60_exceptions.md) -/

/-- 10_state.md R31, 30_encoding.md R88, 20_memory.md R66: when the host's next transaction writes to CMD a word that
decodes to i, the step is `exec` of i on the state with CMD_LAST written, and the response after it; and withFetchWord
offers exactly that write. The lists and withFetchWord are the model's own (log entries 1 and 5). -/
def Obligations.StepRunsTheDecodedCommand : Prop :=
  (∀ (s : State) (rest : List HostEvent) (w : Word) (i : Instr),
    s.pending = commandEvent w :: rest → decode w = .ok i →
    step s =
      match exec i { s with pending := rest, cmdLast := w } with
      | .next t => .next { t with responses := .done :: t.responses }
      | .fault f => .fault f
      | .refused r => .refused r) ∧
  (∀ (s : State) (w : Word), (s.withFetchWord 32 w.toNat).pending = commandEvent w :: s.pending)

/-- 60_exceptions.md R301, R302: a word whose check fails changes CMD_LAST and ERR and nothing else, and its bus response
is a normal one; a command that passes every check leaves ERR = OK whatever it was. -/
def Obligations.FailureSetsOnlyErrAndSuccessClearsIt : Prop :=
  (∀ (w : Word) (s : State), wordCheck w s ≠ .ok →
    runCommandWord w s = .next { s with cmdLast := w, err := errValue (wordCheck w s) }) ∧
  (∀ (s : State) (rest : List HostEvent) (w : Word), s.pending = commandEvent w :: rest → wordCheck w s ≠ .ok →
    step s = .next { s with
      pending := rest, cmdLast := w, err := errValue (wordCheck w s), responses := .done :: s.responses }) ∧
  (∀ (w : Word) (s : State), wordCheck w s = .ok → ∃ t, runCommandWord w s = .next t ∧ t.err = 0x0#4 ∧ t.cmdLast = w)

/-- 60_exceptions.md R303: the checks of a word and their order, read off the word's own fields and the state before it. -/
def Obligations.ChecksAreMadeInOrder : Prop :=
  ∀ (w : Word) (s : State), ∃ t, runCommandWord w s = .next t ∧
    (∀ e, decode w = .illegal e → t.err = 0x4#4) ∧
    (w &&& mustBeZero (opcOf w) ≠ 0#32 → t.err = 0x4#4) ∧
    (opcOf w = 0x16#8 → 10 < (idxOf w).toNat → t.err = 0x4#4) ∧
    (opcOf w ∈ [0x50#8, 0x60#8, 0x61#8] → kselOf w = 3#2 → t.err = 0x4#4) ∧
    (∀ i, decode w = .ok i →
      t.err =
        if opcOf w ∈ [0x50#8, 0x60#8, 0x61#8] ∧ (nrOf w = 0#5 ∨ 16 < (nrOf w).toNat) then 0x3#4
        else if opcOf w = 0x16#8 ∧ s.aesKsv = false then 0x5#4
        else if opcOf w = 0x43#8 ∧ (s.desKsv = false ∨ s.desNsk.toNat ≤ (idxOf w).toNat) then 0x5#4
        else 0x0#4)

/-- 10_state.md R30: ERR is written by every command and by nothing else; a host write to another register, a read and a
bus error leave it. (A reset is not a command: it puts ERR at its reset value, 10_state.md R41.) -/
def Obligations.ErrReportsTheLatestCommand : Prop :=
  ∀ (s t : State) (e : HostEvent) (rest : List HostEvent), s.pending = e :: rest → step s = .next t →
    (∀ w, e = commandEvent w → t.err = errValue (wordCheck w s)) ∧
    (e ≠ .reset → (∀ w, e ≠ commandEvent w) → t.err = s.err)

/-- Every step of every state answers a next state. Of a command word 60_exceptions.md R305 says so, and of a reset
70_reset_and_hazards.md R340. That the core goes on after a bus error (20_memory.md R63, 60_exceptions.md R306) with the
fault recorded is the model's choice (log entry 2), and that an idle step answers the same state is inferred from
00_scope.md R9 (log entry 15). -/
def Obligations.EveryStepAnswersANextState : Prop :=
  ∀ s : State, ∃ t, step s = .next t

/-! ## The control family (46_control.md) -/

/-- 46_control.md R260. -/
def Obligations.NopOnlyClearsErr : Prop :=
  encode .nop = 0x00000000#32 ∧
  (∀ w, opcOf w = 0x00#8 → w ≠ 0x00000000#32 → IllegalEffect w) ∧
  (∀ s : State, exec .nop s = .next { s with err := 0x0#4 }) ∧
  (∀ s : State, runCommandWord 0x00000000#32 s = .next { s with cmdLast := 0x00000000#32, err := 0x0#4 }) ∧
  hostRead 0x004#10 State.reset = encode .nop ∧
  (∀ s t : State, s.err = 0x4#4 → runCommandWord 0x00000000#32 s = .next t →
    (hostRead 0x008#10 t).extractLsb' 0 4 = 0x0#4)

/-! ## The AES round engine (40_aes_round.md) -/

/-- 40_aes_round.md R120. -/
def Obligations.AesSubSubstitutesEveryByte : Prop :=
  encode .aesSub = 0x00000010#32 ∧
  (∀ w, opcOf w = 0x10#8 → w ≠ 0x00000010#32 → IllegalEffect w) ∧
  (∀ s : State, exec .aesSub s = .next { s with aesState := subBytes s.aesState, err := 0x0#4 }) ∧
  (∀ (v : Block) (i : Nat), i < 16 → byteAt (subBytes v) i = sbox (byteAt v i)) ∧
  subBytes 0#128 = 0x63636363636363636363636363636363#128 ∧
  subBytes 0x000102030405060708090a0b0c0d0e0f#128 = 0x637c777bf26b6fc53001672bfed7ab76#128

/-- 40_aes_round.md R121. -/
def Obligations.AesInvsubSubstitutesEveryByteBack : Prop :=
  encode .aesInvsub = 0x00000011#32 ∧
  (∀ s : State, exec .aesInvsub s = .next { s with aesState := invSubBytes s.aesState, err := 0x0#4 }) ∧
  (∀ (v : Block) (i : Nat), i < 16 → byteAt (invSubBytes v) i = invSbox (byteAt v i)) ∧
  (∀ s : State, ∃ t, execAll [.aesSub, .aesInvsub] s = .next t ∧ t.aesState = s.aesState) ∧
  invSubBytes 0x63636363636363636363636363636363#128 = 0#128 ∧
  invSubBytes 0x000102030405060708090a0b0c0d0e0f#128 = 0x52096ad53036a538bf40a39e81f3d7fb#128

/-- 40_aes_round.md R122, with the rotation of R107: row r is left-rotated by r positions. -/
def Obligations.AesShiftRotatesRowsLeft : Prop :=
  encode .aesShift = 0x00000012#32 ∧
  (∀ s : State, exec .aesShift s = .next { s with aesState := shiftRows s.aesState, err := 0x0#4 }) ∧
  (∀ (v : Block) (c r : Nat), c < 4 → r < 4 → byteAt (shiftRows v) (4 * c + r) = byteAt v (4 * ((c + r) % 4) + r)) ∧
  (∀ s : State, ∃ t, execAll [.aesShift, .aesShift, .aesShift, .aesShift] s = .next t ∧ t.aesState = s.aesState) ∧
  (∀ v : Block, (∀ c r, c < 4 → r < 4 → byteAt v (4 * c + r) = byteAt v r) → shiftRows v = v) ∧
  shiftRows 0x000102030405060708090a0b0c0d0e0f#128 = 0x00050a0f04090e03080d02070c01060b#128

/-- 40_aes_round.md R123, with the rotation of R108: row r is right-rotated by r positions. -/
def Obligations.AesInvshiftRotatesRowsRight : Prop :=
  encode .aesInvshift = 0x00000013#32 ∧
  (∀ s : State, exec .aesInvshift s = .next { s with aesState := invShiftRows s.aesState, err := 0x0#4 }) ∧
  (∀ (v : Block) (c r : Nat), c < 4 → r < 4 →
    byteAt (invShiftRows v) (4 * c + r) = byteAt v (4 * ((c + 4 - r) % 4) + r)) ∧
  (∀ s : State, ∃ t, execAll [.aesShift, .aesInvshift] s = .next t ∧ t.aesState = s.aesState) ∧
  invShiftRows 0x000102030405060708090a0b0c0d0e0f#128 = 0x000d0a0704010e0b0805020f0c090603#128

/-- 40_aes_round.md R124, with the matrix of R109: each output byte is the XOR of four products of its own column. -/
def Obligations.AesMixMultipliesColumns : Prop :=
  encode .aesMix = 0x00000014#32 ∧
  (∀ s : State, exec .aesMix s = .next { s with aesState := mixColumns s.aesState, err := 0x0#4 }) ∧
  (∀ (v : Block) (c r : Nat), c < 4 → r < 4 →
    byteAt (mixColumns v) (4 * c + r) =
      gfmul 0x02#8 (byteAt v (4 * c + r)) ^^^ gfmul 0x03#8 (byteAt v (4 * c + (r + 1) % 4))
        ^^^ byteAt v (4 * c + (r + 2) % 4) ^^^ byteAt v (4 * c + (r + 3) % 4)) ∧
  (∀ (v : Block) (c : Nat), c < 4 → (∀ r, r < 4 → byteAt v (4 * c + r) = byteAt v (4 * c)) →
    ∀ r, r < 4 → byteAt (mixColumns v) (4 * c + r) = byteAt v (4 * c + r)) ∧
  mixColumns 0#128 = 0#128 ∧
  mixColumns 0xdb135345f20a225c01010101c6c6c6c6#128 = 0x8e4da1bc9fdc589d01010101c6c6c6c6#128

/-- 40_aes_round.md R125, with the matrix of R110. -/
def Obligations.AesInvmixMultipliesColumnsBack : Prop :=
  encode .aesInvmix = 0x00000015#32 ∧
  (∀ s : State, exec .aesInvmix s = .next { s with aesState := invMixColumns s.aesState, err := 0x0#4 }) ∧
  (∀ (v : Block) (c r : Nat), c < 4 → r < 4 →
    byteAt (invMixColumns v) (4 * c + r) =
      gfmul 0x0E#8 (byteAt v (4 * c + r)) ^^^ gfmul 0x0B#8 (byteAt v (4 * c + (r + 1) % 4))
        ^^^ gfmul 0x0D#8 (byteAt v (4 * c + (r + 2) % 4)) ^^^ gfmul 0x09#8 (byteAt v (4 * c + (r + 3) % 4))) ∧
  (∀ s : State, ∃ t, execAll [.aesMix, .aesInvmix] s = .next t ∧ t.aesState = s.aesState) ∧
  (∀ (v : Block) (c : Nat), c < 4 → (∀ r, r < 4 → byteAt v (4 * c + r) = byteAt v (4 * c)) →
    ∀ r, r < 4 → byteAt (invMixColumns v) (4 * c + r) = byteAt v (4 * c + r)) ∧
  invMixColumns 0x8e4da1bc9fdc589d01010101c6c6c6c6#128 = 0xdb135345f20a225c01010101c6c6c6c6#128

/-- 40_aes_round.md R126. -/
def Obligations.AesArkAddsTheIndexedRoundKey : Prop :=
  (∀ idx, encode (.aesArk idx) = 0x00000016#32 ||| (idx.setWidth 32 <<< 8)) ∧
  (∀ (idx : BitVec 4) (s : State), idx.toNat ≤ 10 → s.aesKsv = true →
    exec (.aesArk idx) s =
      .next { s with aesState := s.aesState ^^^ roundKey s.aesRk idx.toNat, err := 0x0#4 }) ∧
  (∀ (idx : BitVec 4) (s : State), idx.toNat ≤ 10 → s.aesKsv = false →
    exec (.aesArk idx) s = .next { s with err := 0x5#4 }) ∧
  (∀ (idx : BitVec 4) (s : State), 11 ≤ idx.toNat →
    exec (.aesArk idx) s = .next { s with err := 0x4#4 } ∧ IllegalEffect (encode (.aesArk idx))) ∧
  State.reset.aesKsv = false ∧
  (∀ (j : Nat) (v : Word) (s t : State), j < 4 → hostWrite (BitVec.ofNat 10 (0x020 + 4 * j)) v s = .next t →
    t.aesKsv = false) ∧
  (∀ (idx : BitVec 4) (s : State), idx.toNat ≤ 10 → s.aesKsv = true →
    ∃ t, execAll [.aesArk idx, .aesArk idx] s = .next t ∧ t.aesState = s.aesState) ∧
  (∀ s : State, s.aesKsv = true → s.aesRk = keyExpFwd s.aesKey →
    exec (.aesArk 0#4) s = .next { s with aesState := s.aesState ^^^ s.aesKey, err := 0x0#4 }) ∧
  addRoundKey 0x00112233445566778899aabbccddeeff#128
      (roundKey (keyExpFwd 0x000102030405060708090a0b0c0d0e0f#128) 0) =
    0x00102030405060708090a0b0c0d0e0f0#128

/-- 40_aes_round.md R102, which the spec marks as its own inference from R101. -/
def Obligations.GfmulConsequences : Prop :=
  (∀ a : Byte, gfmul a 0x01#8 = a ∧ gfmul a 0x00#8 = 0x00#8) ∧
  (∀ a b : Byte, gfmul a b = gfmul b a) ∧
  (∀ a : Byte, gfmul a 0x02#8 = xtime a ∧ xtime a = (a <<< 1) ^^^ (if a.getLsbD 7 then 0x1B#8 else 0x00#8)) ∧
  (∀ a : Byte, gfmul a 0x03#8 = xtime a ^^^ a) ∧
  gfmul 0x80#8 0x02#8 = 0x1B#8 ∧ gfmul 0xFF#8 0xFF#8 = 0x13#8

/-- 40_aes_round.md R106: the tables are inversion in GF(2^8) followed by the affine step, and the way back. The spec has
this form from general knowledge; its tables (R104, R105) are what the model computes with. -/
def Obligations.SboxIsInversionThenAffine : Prop :=
  sbox 0x00#8 = sboxAffine 0x00#8 ∧
  (∀ x : Byte, x ≠ 0x00#8 → ∃ y, gfmul x y = 0x01#8 ∧ sbox x = sboxAffine y) ∧
  (∀ y : Byte, sboxAffine (invSboxAffine y) = y ∧ invSboxAffine (sboxAffine y) = y) ∧
  (∀ y : Byte, (invSboxAffine y = 0x00#8 ∧ invSbox y = 0x00#8) ∨ gfmul (invSboxAffine y) (invSbox y) = 0x01#8)

/-- 40_aes_round.md R119, which the spec marks as its own inference from R104 to R118. -/
def Obligations.AesBlockFunctionProperties : Prop :=
  (∀ b : Byte, invSbox (sbox b) = b) ∧
  (∀ s : Block, invMixColumns (mixColumns s) = s) ∧
  (∀ s k : Block, addRoundKey (addRoundKey s k) k = s) ∧
  (∀ s : Block, invShiftRows (shiftRows s) = s) ∧
  (∀ s : Block, shiftRows (subBytes s) = subBytes (shiftRows s)) ∧
  (∀ s : Block, invShiftRows (invSubBytes s) = invSubBytes (invShiftRows s)) ∧
  (∀ a b : Block, mixColumns (a ^^^ b) = mixColumns a ^^^ mixColumns b) ∧
  (∀ a b : Block, invMixColumns (a ^^^ b) = invMixColumns a ^^^ invMixColumns b)

/-! ## The AES key scheduler (41_aes_keysched.md) -/

/-- 41_aes_keysched.md R141, R144, R145: RotWord is a rotation, g touches RC in the first byte only, and the four words of
the next round key. -/
def Obligations.NextRoundKeyWordByWord : Prop :=
  (∀ w : Word, rotWord w = w.rotateLeft 8 ∧ ∀ j, j < 4 → wordByte (rotWord w) j = wordByte w ((j + 1) % 4)) ∧
  (∀ (w : Word) (i j : Nat), i < 10 → j < 4 →
    wordByte (keyG w i) j =
      if j = 0 then sbox (wordByte w 1) ^^^ roundConstants.getD i 0#8 else sbox (wordByte w ((j + 1) % 4))) ∧
  (∀ (p : Block) (i : Nat), i < 10 →
    wordAt (nextKey p i) 0 = keyG (wordAt p 3) i ^^^ wordAt p 0 ∧
    (∀ j, j < 3 → wordAt (nextKey p i) (j + 1) = wordAt p (j + 1) ^^^ wordAt (nextKey p i) j))

/-- 41_aes_keysched.md R149, with the schedules of R146 and R147. -/
def Obligations.AesKeyexpWritesTheSchedule : Prop :=
  encode (.aesKeyexp .enc) = 0x00000020#32 ∧ encode (.aesKeyexp .dec) = 0x00001020#32 ∧
  (∀ w, opcOf w = 0x20#8 → w ≠ 0x00000020#32 → w ≠ 0x00001020#32 → IllegalEffect w) ∧
  (∀ (dir : Dir) (s : State), exec (.aesKeyexp dir) s =
    .next { s with aesRk := keyExp s.aesKey dir, aesKsv := true, aesKsdir := dir, err := 0x0#4 }) ∧
  (∀ key : Block, roundKey (keyExp key .enc) 0 = key ∧
    ∀ i, i < 10 → roundKey (keyExp key .enc) (i + 1) = nextKey (roundKey (keyExp key .enc) i) i) ∧
  (∀ key : Block, roundKey (keyExp key .dec) 0 = roundKey (keyExp key .enc) 10 ∧
    roundKey (keyExp key .dec) 10 = roundKey (keyExp key .enc) 0 ∧
    ∀ k, 1 ≤ k → k ≤ 9 → roundKey (keyExp key .dec) k = invMixColumns (roundKey (keyExp key .enc) (10 - k))) ∧
  (∀ (dir : Dir) (s t : State), exec (.aesKeyexp dir) s = .next t → exec (.aesKeyexp dir) t = .next t) ∧
  (∀ s : State, execAll [.aesKeyexp .dec, .aesKeyexp .enc] s = exec (.aesKeyexp .enc) s) ∧
  roundKey (keyExp 0x000102030405060708090a0b0c0d0e0f#128 .enc) 1 = 0xd6aa74fdd2af72fadaa678f1d6ab76fe#128 ∧
  roundKey (keyExp 0x000102030405060708090a0b0c0d0e0f#128 .enc) 10 = 0x13111d7fe3944a17f307a78b4d2b30c5#128 ∧
  roundKey (keyExp 0x000102030405060708090a0b0c0d0e0f#128 .dec) 0 = 0x13111d7fe3944a17f307a78b4d2b30c5#128 ∧
  roundKey (keyExp 0x000102030405060708090a0b0c0d0e0f#128 .dec) 1 = 0x13aa29be9c8faff6f770f58000f7bf03#128

/-- 41_aes_keysched.md R150, which the spec marks as its own inference from R146 to R149. -/
def Obligations.AesScheduleProperties : Prop :=
  ∀ key : Block,
    (keyExpFwd key).toList.length = 11 ∧ (keyExpDec key).toList.length = 11 ∧
    roundKey (keyExpFwd key) 0 = key ∧
    roundKey (keyExpDec key) 0 = roundKey (keyExpFwd key) 10 ∧
    roundKey (keyExpDec key) 10 = key ∧
    (∀ k, 1 ≤ k → k ≤ 9 →
      roundKey (keyExpDec key) k = invMixColumns (roundKey (keyExpFwd key) (10 - k)) ∧
      mixColumns (roundKey (keyExpDec key) k) = roundKey (keyExpFwd key) (10 - k))

/-! ## The AES cipher (42_aes_cipher.md) -/

/-- 42_aes_cipher.md R162. -/
def Obligations.AesEncEncryptsTheState : Prop :=
  encode .aesEnc = 0x00000030#32 ∧
  (∀ s : State, exec .aesEnc s = .next { s with
    aesState := cipher s.aesState (keyExpFwd s.aesKey), aesRk := keyExpFwd s.aesKey, aesKsv := true,
    aesKsdir := .enc, err := 0x0#4 }) ∧
  cipher 0#128 (keyExpFwd 0#128) = 0x66e94bd4ef8a2c3b884cfa59ca342b2e#128 ∧
  cipher 0x00112233445566778899aabbccddeeff#128 (keyExpFwd 0x000102030405060708090a0b0c0d0e0f#128) =
    0x69c4e0d86a7b0430d8cdb78070b4c55a#128

/-- 42_aes_cipher.md R163. -/
def Obligations.AesDecDecryptsTheState : Prop :=
  encode .aesDec = 0x00000031#32 ∧
  (∀ s : State, exec .aesDec s = .next { s with
    aesState := invCipher s.aesState (keyExpDec s.aesKey), aesRk := keyExpDec s.aesKey, aesKsv := true,
    aesKsdir := .dec, err := 0x0#4 }) ∧
  invCipher 0#128 (keyExpDec 0#128) = 0x140f0f1011b5223d79587717ffd9ec3a#128 ∧
  invCipher 0x69c4e0d86a7b0430d8cdb78070b4c55a#128 (keyExpDec 0x000102030405060708090a0b0c0d0e0f#128) =
    0x00112233445566778899aabbccddeeff#128

/-- 42_aes_cipher.md R165: the step-wise sequences leave what AES_ENC and AES_DEC leave, from any start state;
the spec marks it as its own inference. -/
def Obligations.AesStepwiseEqualsTheCipher : Prop :=
  ∀ s : State, execAll stepwiseEncrypt s = exec .aesEnc s ∧ execAll stepwiseDecrypt s = exec .aesDec s

/-- 42_aes_cipher.md R166: AES_ENC and then AES_DEC leave the plaintext in AES_STATE; the spec marks it as its own
inference. -/
def Obligations.AesDecryptsWhatItEncrypts : Prop :=
  (∀ p key : Block, invCipher (cipher p (keyExpFwd key)) (keyExpDec key) = p) ∧
  (∀ s : State, ∃ t, execAll [.aesEnc, .aesDec] s = .next t ∧ t.aesState = s.aesState)

/-! ## The DES round engine (43_des_round.md) -/

/-- 43_des_round.md R191, with the table of R181 read row by row: output position p takes the input position that falls by
8 along a row and rises by 2 from row to row. -/
def Obligations.DesIpPermutesTheBlock : Prop :=
  encode .desIp = 0x00000040#32 ∧
  (∀ s : State, exec .desIp s = .next { s with desBlock := permute 64 s.desBlock ipTable, err := 0x0#4 }) ∧
  (∀ (v : DesBlock) (p : Nat), p < 64 →
    (permute 64 v ipTable).getMsbD p =
      v.getMsbD ((if p / 8 < 4 then 57 + 2 * (p / 8) else 48 + 2 * (p / 8)) - 8 * (p % 8))) ∧
  permute 64 0#64 ipTable = 0#64 ∧
  permute 64 0xFFFFFFFFFFFFFFFF#64 ipTable = 0xFFFFFFFFFFFFFFFF#64 ∧
  permute 64 0x0000000000000001#64 ipTable = 0x0000008000000000#64 ∧
  permute 64 0x8000000000000000#64 ipTable = 0x0000000001000000#64 ∧
  permute 64 0x0123456789abcdef#64 ipTable = 0xcc00ccfff0aaf0aa#64

/-- 43_des_round.md R192, with R182: FP takes each bit back to where IP took it from. -/
def Obligations.DesFpPermutesTheBlockBack : Prop :=
  encode .desFp = 0x00000041#32 ∧
  (∀ s : State, exec .desFp s = .next { s with desBlock := permute 64 s.desBlock fpTable, err := 0x0#4 }) ∧
  (∀ (v : DesBlock) (p : Nat), p < 64 → (permute 64 v fpTable).getMsbD (ipTable.getD p 0) = v.getMsbD p) ∧
  (∀ s : State, ∃ t, execAll [.desIp, .desFp] s = .next t ∧ t.desBlock = s.desBlock) ∧
  (∀ s : State, ∃ t, execAll [.desFp, .desIp] s = .next t ∧ t.desBlock = s.desBlock) ∧
  permute 64 0x0a4cd99543423234#64 fpTable = 0x85e813540f0ab405#64

/-- 43_des_round.md R193, with R190. -/
def Obligations.DesSwapExchangesTheHalves : Prop :=
  encode .desSwap = 0x00000042#32 ∧
  (∀ s : State, exec .desSwap s = .next { s with desBlock := swapHalves s.desBlock, err := 0x0#4 }) ∧
  (∀ b : DesBlock, (swapHalves b).extractLsb' 32 32 = b.extractLsb' 0 32 ∧
    (swapHalves b).extractLsb' 0 32 = b.extractLsb' 32 32) ∧
  (∀ s : State, ∃ t, execAll [.desSwap, .desSwap] s = .next t ∧ t.desBlock = s.desBlock) ∧
  (∀ b : DesBlock, b.extractLsb' 32 32 = b.extractLsb' 0 32 → swapHalves b = b) ∧
  swapHalves 0x434232340a4cd995#64 = 0x0a4cd99543423234#64

/-- 43_des_round.md R194, with R188 and R189. -/
def Obligations.DesRoundRunsOneFeistelRound : Prop :=
  (∀ idx, encode (.desRound idx) = 0x00000043#32 ||| (idx.setWidth 32 <<< 8)) ∧
  (∀ idx : BitVec 4, ∃ i, decode (encode (.desRound idx)) = .ok i) ∧
  (∀ (idx : BitVec 4) (s : State), s.desKsv = true → idx.toNat < s.desNsk.toNat →
    exec (.desRound idx) s =
      .next { s with desBlock := feistelRound s.desBlock (subkey s.desSk idx.toNat), err := 0x0#4 }) ∧
  (∀ (idx : BitVec 4) (s : State), (s.desKsv = false ∨ s.desNsk.toNat ≤ idx.toNat) →
    exec (.desRound idx) s = .next { s with err := 0x5#4 }) ∧
  (∀ (b : DesBlock) (k : Subkey),
    hiHalf (feistelRound b k) = loHalf b ∧
    loHalf (feistelRound b k) = permute 32 (sLayer (permute 48 (loHalf b) eTable ^^^ k)) pTable ^^^ hiHalf b) ∧
  (∀ (b : DesBlock) (k : Subkey), swapHalves (feistelRound (swapHalves (feistelRound b k)) k) = b) ∧
  subkey (writeDesSchedule 0#2 16#5 .enc { State.reset with desKey := #v[0x133457799bbcdff1#64, 0#64, 0#64] }).desSk 0 =
    0x1b02effc7072#48 ∧
  feistelRound 0xcc00ccfff0aaf0aa#64 0x1b02effc7072#48 = 0xf0aaf0aaef4a6544#64

/-- 43_des_round.md R180: bit by bit, what the permutation engine does. -/
def Obligations.PermuteTakesTheTablePositions : Prop :=
  ∀ (n m : Nat) (v : BitVec n) (t : List Nat), t.length = m → (∀ p, p ∈ t → p < n) →
    ∀ i, i < m → (permute m v t).getLsbD (m - 1 - i) = v.getLsbD (n - 1 - t.getD i 0)

/-- 43_des_round.md R186, R187: output nibble j is the box of group j at its row and column. -/
def Obligations.SLayerLooksUpEachGroup : Prop :=
  (∀ (x : Subkey) (j : Nat), j < 8 →
    (sLayer x).extractLsb' (28 - 4 * j) 4 = desSbox j (x.extractLsb' (42 - 6 * j) 6)) ∧
  (∀ (j row col : Nat) (g : BitVec 6), j < 8 → row = 2 * (g.getLsbD 5).toNat + (g.getLsbD 0).toNat →
    col = (g.extractLsb' 1 4).toNat → (desSbox j g).toNat = ((desBox j).getD row []).getD col 0)

/-- 43_des_round.md R195, which the spec marks as its own inference from R180 to R190. -/
def Obligations.DesPermutationAndRoundProperties : Prop :=
  (∀ (n : Nat) (v : BitVec n), permute n v (List.range n) = v) ∧
  (∀ v : DesBlock, permute 64 (permute 64 v ipTable) fpTable = v) ∧
  (∀ v : DesBlock, permute 64 (permute 64 v fpTable) ipTable = v) ∧
  (∀ (b : DesBlock) (k : Subkey), swapHalves (feistelRound (swapHalves (feistelRound b k)) k) = b)

/-! ## The DES key scheduler (44_des_keysched.md) -/

/-- 44_des_keysched.md R222, R223, R224: the rotations accumulate, the shifts sum to 28, and after 16 rounds the halves are
PC1's again; the sum and the return are the spec's own inference. -/
def Obligations.KeyHalvesRotateCumulatively : Prop :=
  shiftSchedule = [1, 1, 2, 2, 2, 2, 2, 2, 1, 2, 2, 2, 2, 2, 2, 1] ∧ shiftSchedule.sum = 28 ∧
  (∀ (key : DesBlock) (i : Nat), i < 16 →
    (keyHalves key (i + 1)).1 = (keyHalves key 0).1.rotateLeft (shiftSchedule.take (i + 1)).sum ∧
    (keyHalves key (i + 1)).2 = (keyHalves key 0).2.rotateLeft (shiftSchedule.take (i + 1)).sum) ∧
  (∀ key : DesBlock, keyHalves key 16 = keyHalves key 0)

/-- 44_des_keysched.md R228, which the spec marks as its own inference from R222 to R226. -/
def Obligations.DesScheduleProperties : Prop :=
  (∀ key : DesBlock, (keySchedule key 16 .enc).length = 16 ∧
    ∀ k, k < 16 → (keySchedule key 16 .dec).getD k 0#48 = (keySchedule key 16 .enc).getD (15 - k) 0#48) ∧
  (∀ (key : DesBlock) (nr k : Nat), 1 ≤ nr → nr ≤ 16 → k < nr →
    (keySchedule key nr .dec).getD k 0#48 = (keySchedule key nr .enc).getD (nr - 1 - k) 0#48 ∧
    (keySchedule key nr .enc).getD k 0#48 = (keySchedule key 16 .enc).getD k 0#48) ∧
  (∀ (key m : DesBlock) (nr : Nat) (dir : Dir), 1 ≤ nr → nr ≤ 16 →
    (∀ p, p < 64 → p ∉ [7, 15, 23, 31, 39, 47, 55, 63] → m.getMsbD p = false) →
    keySchedule (key ^^^ m) nr dir = keySchedule key nr dir)

/-- 44_des_keysched.md R227, with WriteSchedule of R226. -/
def Obligations.DesKeyexpWritesTheSchedule : Prop :=
  (∀ dir ksel nr, encode (.desKeyexp dir ksel nr) =
    0x00000050#32 ||| (dir.bit.setWidth 32 <<< 12) ||| (ksel.setWidth 32 <<< 14) ||| (nr.setWidth 32 <<< 16)) ∧
  encode (.desKeyexp .enc 0#2 16#5) = 0x00100050#32 ∧ encode (.desKeyexp .dec 0#2 16#5) = 0x00101050#32 ∧
  (∀ (dir : Dir) (ksel : BitVec 2) (nr : BitVec 5) (s : State), ksel ≠ 3#2 → 1 ≤ nr.toNat → nr.toNat ≤ 16 →
    ∃ t, exec (.desKeyexp dir ksel nr) s = .next t ∧
      t = { s with
        desSk := t.desSk, desKsv := true, desKsdir := dir, desKsel := ksel, desNsk := nr, err := 0x0#4 } ∧
      ∀ k, k < 16 → subkey t.desSk k =
        if k < nr.toNat then (keySchedule (selectKey s.desKey ksel) nr.toNat dir).getD k 0#48 else 0#48) ∧
  (∀ (dir : Dir) (nr : BitVec 5) (s : State),
    exec (.desKeyexp dir 3#2 nr) s = .next { s with err := 0x4#4 } ∧ IllegalEffect (encode (.desKeyexp dir 3#2 nr))) ∧
  (∀ (dir : Dir) (ksel : BitVec 2) (nr : BitVec 5) (s : State), ksel ≠ 3#2 → (nr = 0#5 ∨ 16 < nr.toNat) →
    exec (.desKeyexp dir ksel nr) s = .next { s with err := 0x3#4 }) ∧
  (∀ key : DesBlock, keySchedule key 1 .enc = keySchedule key 1 .dec) ∧
  keySchedule 0#64 16 .enc = List.replicate 16 0#48 ∧
  keySchedule 0xFFFFFFFFFFFFFFFF#64 16 .enc = List.replicate 16 0xFFFFFFFFFFFF#48 ∧
  keySchedule 0x0101010101010101#64 16 .enc = List.replicate 16 0#48 ∧
  (keySchedule 0x133457799bbcdff1#64 16 .enc).getD 0 0#48 = 0x1b02effc7072#48 ∧
  (keySchedule 0x133457799bbcdff1#64 16 .enc).getD 1 0#48 = 0x79aed9dbc9e5#48 ∧
  (keySchedule 0x133457799bbcdff1#64 16 .enc).getD 15 0#48 = 0xcb3d8b0e17f5#48 ∧
  (keySchedule 0x133457799bbcdff1#64 16 .dec).getD 0 0#48 = 0xcb3d8b0e17f5#48 ∧
  (keySchedule 0x133457799bbcdff1#64 16 .dec).getD 15 0#48 = 0x1b02effc7072#48 ∧
  keySchedule 0x133457799bbcdff1#64 2 .enc = [0x1b02effc7072#48, 0x79aed9dbc9e5#48] ∧
  (∀ s t : State, s.aesKsv = false → s.aesKsdir = .enc → exec (.desKeyexp .enc 0#2 2#5) s = .next t →
    hostRead 0x008#10 t = 0x00021000#32)

/-! ## The DES and triple-DES ciphers (45_des_cipher.md) -/

/-- 45_des_cipher.md R241, with DESCrypt of R240. -/
def Obligations.DesEncEncryptsTheBlock : Prop :=
  (∀ ksel nr, encode (.desEnc ksel nr) = 0x00000060#32 ||| (ksel.setWidth 32 <<< 14) ||| (nr.setWidth 32 <<< 16)) ∧
  encode (.desEnc 0#2 16#5) = 0x00100060#32 ∧ encode (.desEnc 1#2 16#5) = 0x00104060#32 ∧
  (∀ (ksel : BitVec 2) (nr : BitVec 5) (s : State), ksel ≠ 3#2 → 1 ≤ nr.toNat → nr.toNat ≤ 16 →
    ∃ t, exec (.desEnc ksel nr) s = .next t ∧
      t = { s with
        desBlock := desCrypt s.desBlock (selectKey s.desKey ksel) nr.toNat .enc,
        desSk := t.desSk, desKsv := true, desKsdir := .enc, desKsel := ksel, desNsk := nr, err := 0x0#4 } ∧
      ∀ k, k < 16 → subkey t.desSk k =
        if k < nr.toNat then (keySchedule (selectKey s.desKey ksel) nr.toNat .enc).getD k 0#48 else 0#48) ∧
  (∀ (nr : BitVec 5) (s : State), exec (.desEnc 3#2 nr) s = .next { s with err := 0x4#4 } ∧
    IllegalEffect (encode (.desEnc 3#2 nr))) ∧
  (∀ (ksel : BitVec 2) (nr : BitVec 5) (s : State), ksel ≠ 3#2 → (nr = 0#5 ∨ 16 < nr.toNat) →
    exec (.desEnc ksel nr) s = .next { s with err := 0x3#4 }) ∧
  desCrypt 0x0123456789abcdef#64 0x133457799bbcdff1#64 1 .enc = 0x4472457288eeddea#64 ∧
  desCrypt 0x0123456789abcdef#64 0x133457799bbcdff1#64 2 .enc = 0x9da4cee1048ceec0#64 ∧
  desCrypt 0#64 0#64 16 .enc = 0x8ca64de9c1b123a7#64 ∧
  desCrypt 0x0123456789abcdef#64 0x133457799bbcdff1#64 16 .enc = 0x85e813540f0ab405#64

/-- 45_des_cipher.md R242. -/
def Obligations.DesDecDecryptsTheBlock : Prop :=
  (∀ ksel nr, encode (.desDec ksel nr) = 0x00000061#32 ||| (ksel.setWidth 32 <<< 14) ||| (nr.setWidth 32 <<< 16)) ∧
  encode (.desDec 0#2 16#5) = 0x00100061#32 ∧
  (∀ (ksel : BitVec 2) (nr : BitVec 5) (s : State), ksel ≠ 3#2 → 1 ≤ nr.toNat → nr.toNat ≤ 16 →
    ∃ t, exec (.desDec ksel nr) s = .next t ∧
      t = { s with
        desBlock := desCrypt s.desBlock (selectKey s.desKey ksel) nr.toNat .dec,
        desSk := t.desSk, desKsv := true, desKsdir := .dec, desKsel := ksel, desNsk := nr, err := 0x0#4 } ∧
      ∀ k, k < 16 → subkey t.desSk k =
        if k < nr.toNat then (keySchedule (selectKey s.desKey ksel) nr.toNat .dec).getD k 0#48 else 0#48) ∧
  (∀ (nr : BitVec 5) (s : State), exec (.desDec 3#2 nr) s = .next { s with err := 0x4#4 } ∧
    IllegalEffect (encode (.desDec 3#2 nr))) ∧
  (∀ (ksel : BitVec 2) (nr : BitVec 5) (s : State), ksel ≠ 3#2 → (nr = 0#5 ∨ 16 < nr.toNat) →
    exec (.desDec ksel nr) s = .next { s with err := 0x3#4 }) ∧
  (∀ (ksel : BitVec 2) (nr : BitVec 5) (s : State), ksel ≠ 3#2 → 1 ≤ nr.toNat → nr.toNat ≤ 16 →
    ∃ t, execAll [.desEnc ksel nr, .desDec ksel nr] s = .next t ∧ t.desBlock = s.desBlock) ∧
  desCrypt 0x0123456789abcdef#64 0x133457799bbcdff1#64 16 .dec = 0xee0f7c12e0b09338#64 ∧
  desCrypt 0x85e813540f0ab405#64 0x133457799bbcdff1#64 16 .dec = 0x0123456789abcdef#64

/-- 45_des_cipher.md R244, with the key selection of R243. The two-key form passes DES_KEY[2] by, so for it two equal keys
are enough. -/
def Obligations.TdesEncEncryptsTheBlock : Prop :=
  encode (.tdesEnc .two) = 0x00000070#32 ∧ encode (.tdesEnc .three) = 0x00002070#32 ∧
  (∀ (form : TdesKeys) (s : State), ∃ t, exec (.tdesEnc form) s = .next t ∧
    t = { s with
      desBlock := desCrypt (desCrypt (desCrypt s.desBlock s.desKey[0] 16 .enc) s.desKey[1] 16 .dec)
        (match form with | .two => s.desKey[0] | .three => s.desKey[2]) 16 .enc,
      desSk := t.desSk, desKsv := true, desKsdir := .enc,
      desKsel := (match form with | .two => 0#2 | .three => 2#2), desNsk := 16#5, err := 0x0#4 } ∧
    ∀ k, k < 16 → subkey t.desSk k =
      (keySchedule (match form with | .two => s.desKey[0] | .three => s.desKey[2]) 16 .enc).getD k 0#48) ∧
  (∀ (form : TdesKeys) (s t u : State), s.desKey[0] = s.desKey[1] → (form = .three → s.desKey[1] = s.desKey[2]) →
    exec (.tdesEnc form) s = .next t → exec (.desEnc 0#2 16#5) s = .next u → t.desBlock = u.desBlock) ∧
  tdesEncrypt #v[0x133457799bbcdff1#64, 0x133457799bbcdff1#64, 0x133457799bbcdff1#64] .three 0x0123456789abcdef#64 =
    0x85e813540f0ab405#64 ∧
  desCrypt 0x5468652071756663#64 0x0123456789abcdef#64 16 .enc = 0xa28e91724c4bba31#64 ∧
  desCrypt 0xa28e91724c4bba31#64 0x23456789abcdef01#64 16 .dec = 0x5a2ea7f983a2f53f#64 ∧
  tdesEncrypt #v[0x0123456789abcdef#64, 0x23456789abcdef01#64, 0x456789abcdef0123#64] .three 0x5468652071756663#64 =
    0xa826fd8ce53b855f#64 ∧
  tdesEncrypt #v[0x0123456789abcdef#64, 0x23456789abcdef01#64, 0x456789abcdef0123#64] .two 0x5468652071756663#64 =
    0xc44862f70cf2fbdc#64

/-- 45_des_cipher.md R245, with the key selection of R243. -/
def Obligations.TdesDecDecryptsTheBlock : Prop :=
  encode (.tdesDec .two) = 0x00000071#32 ∧ encode (.tdesDec .three) = 0x00002071#32 ∧
  (∀ (form : TdesKeys) (s : State), ∃ t, exec (.tdesDec form) s = .next t ∧
    t = { s with
      desBlock := desCrypt (desCrypt (desCrypt s.desBlock
        (match form with | .two => s.desKey[0] | .three => s.desKey[2]) 16 .dec) s.desKey[1] 16 .enc) s.desKey[0] 16 .dec,
      desSk := t.desSk, desKsv := true, desKsdir := .dec, desKsel := 0#2, desNsk := 16#5, err := 0x0#4 } ∧
    ∀ k, k < 16 → subkey t.desSk k = (keySchedule s.desKey[0] 16 .dec).getD k 0#48) ∧
  (∀ (form : TdesKeys) (s : State), ∃ t, execAll [.tdesEnc form, .tdesDec form] s = .next t ∧
    t.desBlock = s.desBlock) ∧
  desCrypt 0xa826fd8ce53b855f#64 0x456789abcdef0123#64 16 .dec = 0x5a2ea7f983a2f53f#64 ∧
  desCrypt 0x5a2ea7f983a2f53f#64 0x23456789abcdef01#64 16 .enc = 0xa28e91724c4bba31#64 ∧
  tdesDecrypt #v[0x0123456789abcdef#64, 0x23456789abcdef01#64, 0x456789abcdef0123#64] .three 0xa826fd8ce53b855f#64 =
    0x5468652071756663#64 ∧
  tdesDecrypt #v[0x0123456789abcdef#64, 0x23456789abcdef01#64, 0x456789abcdef0123#64] .two 0xc44862f70cf2fbdc#64 =
    0x5468652071756663#64

/-- 45_des_cipher.md R247, first and second property: single DES decrypts what it encrypts, for every round count, and
triple DES does, for the two-key and the three-key form; the spec marks R247 as its own inference. -/
def Obligations.DesAndTdesDecryptWhatTheyEncrypt : Prop :=
  (∀ (p key : DesBlock) (nr : Nat), 1 ≤ nr → nr ≤ 16 → desCrypt (desCrypt p key nr .enc) key nr .dec = p) ∧
  (∀ (keys : Vector DesBlock 3) (form : TdesKeys) (p : DesBlock), tdesDecrypt keys form (tdesEncrypt keys form p) = p)

/-- 45_des_cipher.md R247, third property: the host sequence of primitives leaves what the cipher command leaves; the
spec marks R247 as its own inference. -/
def Obligations.DesStepwiseEqualsTheCipher : Prop :=
  ∀ (ksel : BitVec 2) (nr : BitVec 5) (s : State), ksel ≠ 3#2 → 1 ≤ nr.toNat → nr.toNat ≤ 16 →
    execAll (stepwiseDes .enc ksel nr) s = exec (.desEnc ksel nr) s ∧
    execAll (stepwiseDes .dec ksel nr) s = exec (.desDec ksel nr) s

/-! ## The register window (10_state.md, 20_memory.md) -/

/-- 10_state.md R29: the fields of STATUS, and that host writes to it are ignored. -/
def Obligations.StatusFieldsAreAtTheirPlaces : Prop :=
  (∀ s : State,
    (hostRead 0x008#10 s).extractLsb' 0 4 = s.err ∧
    (hostRead 0x008#10 s).extractLsb' 4 4 = 0#4 ∧
    (hostRead 0x008#10 s).getLsbD 8 = s.aesKsv ∧
    ((hostRead 0x008#10 s).getLsbD 9 = true ↔ s.aesKsdir = .dec) ∧
    (hostRead 0x008#10 s).extractLsb' 10 2 = 0#2 ∧
    (hostRead 0x008#10 s).getLsbD 12 = s.desKsv ∧
    ((hostRead 0x008#10 s).getLsbD 13 = true ↔ s.desKsdir = .dec) ∧
    (hostRead 0x008#10 s).extractLsb' 14 2 = s.desKsel ∧
    (hostRead 0x008#10 s).extractLsb' 16 5 = s.desNsk ∧
    (hostRead 0x008#10 s).extractLsb' 21 11 = 0#11) ∧
  (∀ s : State, DesScheduleInv s →
    (hostRead 0x008#10 s).extractLsb' 14 2 ≠ 3#2 ∧ ((hostRead 0x008#10 s).extractLsb' 16 5).toNat ≤ 16) ∧
  (∀ (v : Word) (s : State), hostWrite 0x008#10 v s = .next s) ∧
  hostRead 0x008#10 State.reset = 0x00000000#32

/-- 10_state.md R32, R33: what the host reads at every offset that holds a register, most significant word first. -/
def Obligations.RegisterMapReads : Prop :=
  ∀ s : State,
    hostRead 0x000#10 s = 0x43525950#32 ∧ hostRead 0x004#10 s = s.cmdLast ∧
    (∀ j, j < 4 → hostRead (BitVec.ofNat 10 (0x010 + 4 * j)) s = s.aesState.extractLsb' (96 - 32 * j) 32 ∧
      hostRead (BitVec.ofNat 10 (0x020 + 4 * j)) s = s.aesKey.extractLsb' (96 - 32 * j) 32 ∧
      ∀ i, i < 4 → wordByte (hostRead (BitVec.ofNat 10 (0x010 + 4 * j)) s) i = byteAt s.aesState (4 * j + i)) ∧
    hostRead 0x030#10 s = s.desBlock.extractLsb' 32 32 ∧ hostRead 0x034#10 s = s.desBlock.extractLsb' 0 32 ∧
    (∀ n : Fin 3, hostRead (BitVec.ofNat 10 (0x040 + 8 * n.val)) s = s.desKey[n].extractLsb' 32 32 ∧
      hostRead (BitVec.ofNat 10 (0x044 + 8 * n.val)) s = s.desKey[n].extractLsb' 0 32) ∧
    (∀ (k : Fin 11) (j : Nat), j < 4 →
      hostRead (BitVec.ofNat 10 (0x100 + 16 * k.val + 4 * j)) s = s.aesRk[k].extractLsb' (96 - 32 * j) 32) ∧
    (∀ k : Fin 16, hostRead (BitVec.ofNat 10 (0x200 + 8 * k.val)) s = (s.desSk[k].extractLsb' 32 16).setWidth 32 ∧
      hostRead (BitVec.ofNat 10 (0x204 + 8 * k.val)) s = s.desSk[k].extractLsb' 0 32)

/-- 10_state.md R34: a write of one word changes only that word; a write to a readable and writable word stores it; a write
to a word of AES_STATE or DES_BLOCK changes no other register and no flag. (A key word write may change STATUS too, as it
clears a valid flag, R37; a write to CMD runs a command, R31.) -/
def Obligations.AWriteChangesOnlyItsWord : Prop :=
  (∀ (off off' : BitVec 10) (v : Word) (s : State),
    off.toNat % 4 = 0 → off'.toNat % 4 = 0 → off ≠ off' → off ≠ 0x004#10 →
    (off' = 0x008#10 →
      ¬(0x020 ≤ off.toNat ∧ off.toNat < 0x030 ∨ 0x040 ≤ off.toNat ∧ off.toNat < 0x058)) →
    ∃ t, hostWrite off v s = .next t ∧ hostRead off' t = hostRead off' s) ∧
  (∀ (off : BitVec 10) (v : Word) (s : State), off.toNat % 4 = 0 →
    (0x010 ≤ off.toNat ∧ off.toNat < 0x038 ∨ 0x040 ≤ off.toNat ∧ off.toNat < 0x058) →
    ∃ t, hostWrite off v s = .next t ∧ hostRead off t = v) ∧
  (∀ (j : Nat) (v : Word) (s : State), j < 4 →
    hostWrite (BitVec.ofNat 10 (0x010 + 4 * j)) v s = .next { s with aesState := setWordAt s.aesState j v } ∧
    wordAt (setWordAt s.aesState j v) j = v ∧
    ∀ k, k < 4 → k ≠ j → wordAt (setWordAt s.aesState j v) k = wordAt s.aesState k) ∧
  (∀ (v : Word) (s : State), ∃ t, hostWrite 0x030#10 v s = .next t ∧
    t = { s with desBlock := t.desBlock } ∧ hiHalf t.desBlock = v ∧ loHalf t.desBlock = loHalf s.desBlock) ∧
  (∀ (v : Word) (s : State), ∃ t, hostWrite 0x034#10 v s = .next t ∧
    t = { s with desBlock := t.desBlock } ∧ loHalf t.desBlock = v ∧ hiHalf t.desBlock = hiHalf s.desBlock)

/-- 10_state.md R35, R36: reserved offsets read 0 and ignore writes, read-only registers ignore writes, and ID reads
ID_VALUE whatever was written. -/
def Obligations.ReservedAndReadOnlyIgnoreWrites : Prop :=
  (∀ (off : BitVec 10) (s : State), off.toNat % 4 = 0 →
    (off ∈ [0x00C#10, 0x038#10, 0x03C#10] ∨ 0x058 ≤ off.toNat ∧ off.toNat < 0x100 ∨
      0x1B0 ≤ off.toNat ∧ off.toNat < 0x200 ∨ 0x280 ≤ off.toNat) →
    hostRead off s = 0x00000000#32 ∧ ∀ v, hostWrite off v s = .next s) ∧
  (∀ (off : BitVec 10) (s : State) (v : Word), off.toNat % 4 = 0 →
    (off ∈ [0x000#10, 0x008#10] ∨ 0x100 ≤ off.toNat ∧ off.toNat < 0x1B0 ∨
      0x200 ≤ off.toNat ∧ off.toNat < 0x280) →
    hostWrite off v s = .next s) ∧
  (∀ s : State, hostRead 0x000#10 s = 0x43525950#32)

/-- 10_state.md R37: a key word write stores the word and clears the valid flag, and nothing else; the round command that
needs the schedule then fails (70_reset_and_hazards.md R344). -/
def Obligations.KeyWritesClearTheValidFlag : Prop :=
  (∀ (j : Nat) (v : Word) (s : State), j < 4 →
    hostWrite (BitVec.ofNat 10 (0x020 + 4 * j)) v s =
      .next { s with aesKey := setWordAt s.aesKey j v, aesKsv := false }) ∧
  (∀ (n : Fin 3) (v : Word) (s : State), ∃ t,
    hostWrite (BitVec.ofNat 10 (0x040 + 8 * n.val)) v s = .next t ∧
    t = { s with desKey := t.desKey, desKsv := false } ∧
    hiHalf t.desKey[n] = v ∧ loHalf t.desKey[n] = loHalf s.desKey[n] ∧ ∀ m : Fin 3, m ≠ n → t.desKey[m] = s.desKey[m]) ∧
  (∀ (n : Fin 3) (v : Word) (s : State), ∃ t,
    hostWrite (BitVec.ofNat 10 (0x044 + 8 * n.val)) v s = .next t ∧
    t = { s with desKey := t.desKey, desKsv := false } ∧
    loHalf t.desKey[n] = v ∧ hiHalf t.desKey[n] = hiHalf s.desKey[n] ∧ ∀ m : Fin 3, m ≠ n → t.desKey[m] = s.desKey[m]) ∧
  (∀ (j : Nat) (v : Word) (s t : State) (idx : BitVec 4), j < 4 → idx.toNat ≤ 10 →
    hostWrite (BitVec.ofNat 10 (0x020 + 4 * j)) v s = .next t → exec (.aesArk idx) t = .next { t with err := 0x5#4 }) ∧
  (∀ (n : Fin 3) (v : Word) (s t : State) (idx : BitVec 4),
    (hostWrite (BitVec.ofNat 10 (0x040 + 8 * n.val)) v s = .next t ∨
      hostWrite (BitVec.ofNat 10 (0x044 + 8 * n.val)) v s = .next t) →
    exec (.desRound idx) t = .next { t with err := 0x5#4 })

/-- 20_memory.md R63, 60_exceptions.md R306: a narrow or misaligned transaction gets an error response and changes no
register; the fault of the host program is recorded and no step clears it. The field that records it is the model's choice
(log entry 2), and so is that a reset leaves it (log entry 3). -/
def Obligations.BusErrorChangesNoRegister : Prop :=
  (∀ (s : State) (tr : Transaction) (rest : List HostEvent), s.pending = .access tr :: rest →
    (tr.size ≠ 2#2 ∨ tr.addr.toNat % 4 ≠ 0) →
    step s = .next { s with pending := rest, responses := .busError :: s.responses, busFault := true }) ∧
  (∀ s t : State, s.busFault = true → step s = .next t → t.busFault = true) ∧
  (∀ (s t : State) (tr : Transaction) (rest : List HostEvent), s.pending = .access tr :: rest →
    tr.size = 2#2 → tr.addr.toNat % 4 = 0 → step s = .next t →
    t.busFault = s.busFault ∧ ∃ r, r ≠ Response.busError ∧ t.responses = r :: s.responses)

/-- 20_memory.md R67: a read leaves every register and only answers; a read that gets a bus error leaves every register
too. -/
def Obligations.ReadsHaveNoSideEffect : Prop :=
  (∀ (s : State) (tr : Transaction) (rest : List HostEvent), s.pending = .access tr :: rest →
    tr.write = false → tr.size = 2#2 → tr.addr.toNat % 4 = 0 →
    step s = .next { s with pending := rest, responses := .data (hostRead tr.addr s) :: s.responses }) ∧
  (∀ (s t : State) (tr : Transaction) (rest : List HostEvent), s.pending = .access tr :: rest →
    tr.write = false → step s = .next t →
    t = { s with pending := rest, responses := t.responses, busFault := t.busFault })

/-- 10_state.md R31: a write of w to CMD sets CMD_LAST, legal or not, and runs the command; a read of CMD returns it. -/
def Obligations.CmdHoldsTheLastWordWritten : Prop :=
  (∀ (w : Word) (s : State), ∃ t, hostWrite 0x004#10 w s = .next t ∧ t.cmdLast = w ∧ hostRead 0x004#10 t = w) ∧
  (∀ (w : Word) (i : Instr) (s : State), decode w = .ok i →
    hostWrite 0x004#10 w s = exec i { s with cmdLast := w }) ∧
  (∀ s : State, hostRead 0x004#10 s = s.cmdLast) ∧
  (∀ (s : State) (rest : List HostEvent), s.pending = readEvent 0x004#10 :: rest →
    step s = .next { s with pending := rest, responses := .data s.cmdLast :: s.responses })

/-- 20_memory.md R62, R63, R66 to R69 and 00_scope.md R9: each step performs exactly the oldest event. A legal write leaves
the registers that `hostWrite` leaves and is answered after it; a read is answered with the word at its offset; any other
transaction gets a bus error; a reset puts every register at its reset value (70_reset_and_hazards.md R340); with no event
the state stays. The lists are the model's own form of the port (log entry 1), and so are the recorded fault (log entry 2)
and that a reset leaves the host's record (log entry 3); the idle step is inferred from R9 (log entry 15). -/
def Obligations.EventsArePerformedOneAtATime : Prop :=
  (∀ (s t : State) (e : HostEvent) (rest : List HostEvent), s.pending = e :: rest → step s = .next t →
    t.pending = rest ∧
    (∀ tr, e = .access tr → ∃ r, t.responses = r :: s.responses) ∧
    (∀ tr, e = .access tr → tr.size = 2#2 → tr.addr.toNat % 4 = 0 → tr.write = true →
      t.responses = .done :: s.responses)) ∧
  (∀ (s : State) (tr : Transaction) (rest : List HostEvent), s.pending = .access tr :: rest →
    tr.write = true → tr.size = 2#2 → tr.addr.toNat % 4 = 0 →
    ∃ u, hostWrite tr.addr tr.wdata { s with pending := rest } = .next u ∧
      step s = .next { u with responses := .done :: s.responses }) ∧
  (∀ (s : State) (tr : Transaction) (rest : List HostEvent), s.pending = .access tr :: rest →
    tr.write = false → tr.size = 2#2 → tr.addr.toNat % 4 = 0 →
    step s = .next { s with pending := rest, responses := .data (hostRead tr.addr s) :: s.responses }) ∧
  (∀ (s : State) (tr : Transaction) (rest : List HostEvent), s.pending = .access tr :: rest →
    (tr.size ≠ 2#2 ∨ tr.addr.toNat % 4 ≠ 0) →
    step s = .next { s with pending := rest, responses := .busError :: s.responses, busFault := true }) ∧
  (∀ (s : State) (rest : List HostEvent), s.pending = .reset :: rest →
    step s = .next { State.reset with pending := rest, responses := s.responses, busFault := s.busFault }) ∧
  (∀ s : State, s.pending = [] → step s = .next s)

/-- 10_state.md R41: the registers after reset, and what STATUS and ID read then. -/
def Obligations.ResetLeavesEveryRegisterZero : Prop :=
  State.reset.aesState = 0#128 ∧ State.reset.aesKey = 0#128 ∧ (∀ k : Fin 11, State.reset.aesRk[k] = 0#128) ∧
  State.reset.aesKsv = false ∧ State.reset.aesKsdir = .enc ∧ State.reset.desBlock = 0#64 ∧
  (∀ n : Fin 3, State.reset.desKey[n] = 0#64) ∧ (∀ k : Fin 16, State.reset.desSk[k] = 0#48) ∧
  State.reset.desKsv = false ∧ State.reset.desKsdir = .enc ∧ State.reset.desKsel = 0#2 ∧ State.reset.desNsk = 0#5 ∧
  State.reset.err = 0#4 ∧ State.reset.cmdLast = 0#32 ∧
  hostRead 0x008#10 State.reset = 0x00000000#32 ∧ hostRead 0x000#10 State.reset = 0x43525950#32

/-- 70_reset_and_hazards.md R340: after a reset event every register reads what it reads in the reset state, whatever it
held. That the host's own record survives a reset is the model's choice (log entry 3), of which only the list of events is stated here; that one event stands
for the two edges of rst is an inference (log entry 4). -/
def Obligations.ResetEventRestoresEveryRegister : Prop :=
  ∀ (s : State) (rest : List HostEvent), s.pending = .reset :: rest →
    ∃ t, step s = .next t ∧ t.pending = rest ∧
      t = { State.reset with pending := t.pending, responses := t.responses, busFault := t.busFault } ∧
      ∀ off, hostRead off t = hostRead off State.reset

/-! ## Invariants and whole-machine rules -/

/-- The three invariants hold at reset (10_state.md R41 to R43). -/
def Obligations.InvariantsHoldAtReset : Prop :=
  AesScheduleInv State.reset ∧ DesScheduleInv State.reset ∧ ErrCodeInv State.reset

/-- 10_state.md R42, the spec's own inference: the AES invariant holds after every command and every host transaction. -/
def Obligations.EveryStepKeepsTheAesSchedule : Prop :=
  ∀ s t : State, AesScheduleInv s → step s = .next t → AesScheduleInv t

/-- 10_state.md R43, the spec's own inference: the DES invariant holds after every command and every host transaction. -/
def Obligations.EveryStepKeepsTheDesSchedule : Prop :=
  ∀ s t : State, DesScheduleInv s → step s = .next t → DesScheduleInv t

/-- 60_exceptions.md R300: no step leaves a code in ERR that no command raises. -/
def Obligations.EveryStepKeepsErrAmongTheRaisedCodes : Prop :=
  ∀ s t : State, ErrCodeInv s → step s = .next t → ErrCodeInv t

/-- 10_state.md R22, R23, R26, R27, 70_reset_and_hazards.md R346: which commands may write which registers. No command
writes a key or a field of the host; only the AES (DES) commands write AES (DES) registers; only the key-expanding commands
write a schedule. -/
def Obligations.CommandsWriteOnlyTheirRegisters : Prop :=
  ∀ (i : Instr) (s t : State), exec i s = .next t →
    (t.aesKey = s.aesKey ∧ t.desKey = s.desKey) ∧
    (t.cmdLast = s.cmdLast ∧ t.pending = s.pending ∧ t.responses = s.responses ∧ t.busFault = s.busFault) ∧
    ((opcode i).toNat < 0x40 →
      t.desBlock = s.desBlock ∧ t.desSk = s.desSk ∧ t.desKsv = s.desKsv ∧ t.desKsdir = s.desKsdir ∧
      t.desKsel = s.desKsel ∧ t.desNsk = s.desNsk) ∧
    (0x40 ≤ (opcode i).toNat →
      t.aesState = s.aesState ∧ t.aesRk = s.aesRk ∧ t.aesKsv = s.aesKsv ∧ t.aesKsdir = s.aesKsdir) ∧
    (opcode i ∉ [0x20#8, 0x30#8, 0x31#8] →
      t.aesRk = s.aesRk ∧ t.aesKsv = s.aesKsv ∧ t.aesKsdir = s.aesKsdir) ∧
    (opcode i ∉ [0x50#8, 0x60#8, 0x61#8, 0x70#8, 0x71#8] →
      t.desSk = s.desSk ∧ t.desKsv = s.desKsv ∧ t.desKsdir = s.desKsdir ∧ t.desKsel = s.desKsel ∧ t.desNsk = s.desNsk)
end

