-- ==== Sys2Proof/Laws/Ops.lean ====
section
/-! SUPPORT. What the byte, word and bit operations of Machine/Ops.lean do: reading after writing, and that a value is
determined by its parts. -/

namespace Sys2Proof.Machine

/-! ## Bytes of a block -/

/-- Byte i of the block built from f is `f i`. -/
theorem byteAt_ofBytes (f : Nat → Byte) (i : Nat) (h : i < 16) : byteAt (ofBytes f) i = f i := by
  have cases16 : i = 0 ∨ i = 1 ∨ i = 2 ∨ i = 3 ∨ i = 4 ∨ i = 5 ∨ i = 6 ∨ i = 7 ∨ i = 8 ∨ i = 9 ∨ i = 10 ∨ i = 11
      ∨ i = 12 ∨ i = 13 ∨ i = 14 ∨ i = 15 := by omega
  apply BitVec.eq_of_getLsbD_eq
  intro k hk
  unfold byteAt ofBytes
  rcases cases16 with h | h | h | h | h | h | h | h | h | h | h | h | h | h | h | h <;> subst h <;>
    simp only [BitVec.getLsbD_extractLsb', BitVec.getLsbD_setWidth, BitVec.getLsbD_append] <;>
    simp +arith +decide [hk] <;> (intros; omega)

/-- Bit k of byte i of a block is bit `120 - 8i + k` of the block. -/
theorem getLsbD_byteAt (v : Block) (i k : Nat) (h : k < 8) : (byteAt v i).getLsbD k = v.getLsbD (120 - 8 * i + k) := by
  simp [byteAt, h]

/-- A block is determined by its sixteen bytes. -/
theorem eq_of_byteAt_eq {a b : Block} (h : ∀ i, i < 16 → byteAt a i = byteAt b i) : a = b := by
  apply BitVec.eq_of_getLsbD_eq
  intro k hk
  have e := congrArg (fun x : Byte => x.getLsbD (k % 8)) (h (15 - k / 8) (by omega))
  simp only [getLsbD_byteAt _ _ _ (Nat.mod_lt k (by decide : 0 < 8))] at e
  have hk' : 120 - 8 * (15 - k / 8) + k % 8 = k := by omega
  rwa [hk'] at e

/-- XOR of blocks is XOR of their bytes (40_aes_round.md R118). -/
theorem byteAt_xor (a b : Block) (i : Nat) : byteAt (a ^^^ b) i = byteAt a i ^^^ byteAt b i := by
  apply BitVec.eq_of_getLsbD_eq
  intro k hk
  simp [getLsbD_byteAt _ _ _ hk]

/-! ## Words of a block -/

/-- Word j of four words joined. -/
theorem wordAt_joinWords (w0 w1 w2 w3 : Word) :
    wordAt (joinWords w0 w1 w2 w3) 0 = w0 ∧ wordAt (joinWords w0 w1 w2 w3) 1 = w1 ∧
    wordAt (joinWords w0 w1 w2 w3) 2 = w2 ∧ wordAt (joinWords w0 w1 w2 w3) 3 = w3 := by
  refine ⟨?_, ?_, ?_, ?_⟩ <;>
    (apply BitVec.eq_of_getLsbD_eq
     intro k hk
     unfold wordAt joinWords
     simp only [BitVec.getLsbD_extractLsb', BitVec.getLsbD_setWidth, BitVec.getLsbD_append]
     simp +arith +decide [hk]) <;> (intros; omega)

/-- Bit k of word j of a block is bit `96 - 32j + k` of the block. -/
theorem getLsbD_wordAt (v : Block) (j k : Nat) (h : k < 32) :
    (wordAt v j).getLsbD k = v.getLsbD (96 - 32 * j + k) := by
  simp [wordAt, h]

/-- A block is determined by its four words. -/
theorem eq_of_wordAt_eq {a b : Block} (h : ∀ j, j < 4 → wordAt a j = wordAt b j) : a = b := by
  apply BitVec.eq_of_getLsbD_eq
  intro k hk
  have e := congrArg (fun x : Word => x.getLsbD (k % 32)) (h (3 - k / 32) (by omega))
  simp only [getLsbD_wordAt _ _ _ (Nat.mod_lt k (by decide : 0 < 32))] at e
  have hk' : 96 - 32 * (3 - k / 32) + k % 32 = k := by omega
  rwa [hk'] at e

/-- Writing word k and reading word j (10_state.md R34). -/
theorem wordAt_setWordAt (v : Block) (x : Word) (k j : Nat) (h : j < 4) :
    wordAt (setWordAt v k x) j = if j = k then x else wordAt v j := by
  have cases4 : j = 0 ∨ j = 1 ∨ j = 2 ∨ j = 3 := by omega
  unfold setWordAt
  obtain ⟨e0, e1, e2, e3⟩ := wordAt_joinWords (if k = 0 then x else wordAt v 0) (if k = 1 then x else wordAt v 1)
    (if k = 2 then x else wordAt v 2) (if k = 3 then x else wordAt v 3)
  rcases cases4 with h | h | h | h <;> subst h <;> simp only [e0, e1, e2, e3, eq_comm]

/-- Byte j of the word built from f is `f j`. -/
theorem wordByte_ofWordBytes (f : Nat → Byte) (j : Nat) (h : j < 4) : wordByte (ofWordBytes f) j = f j := by
  have cases4 : j = 0 ∨ j = 1 ∨ j = 2 ∨ j = 3 := by omega
  apply BitVec.eq_of_getLsbD_eq
  intro k hk
  unfold wordByte ofWordBytes
  rcases cases4 with h | h | h | h <;> subst h <;>
    simp only [BitVec.getLsbD_extractLsb', BitVec.getLsbD_setWidth, BitVec.getLsbD_append] <;>
    simp +arith +decide [hk] <;> (intros; omega)

/-! ## Halves of a 64-bit value -/

@[simp] theorem hiHalf_joinHalves (a b : Word) : hiHalf (joinHalves a b) = a := by
  apply BitVec.eq_of_getLsbD_eq
  intro k hk
  unfold hiHalf joinHalves
  simp only [BitVec.getLsbD_extractLsb', BitVec.getLsbD_setWidth, BitVec.getLsbD_append]
  simp +arith +decide [hk]
  intros
  omega

@[simp] theorem loHalf_joinHalves (a b : Word) : loHalf (joinHalves a b) = b := by
  apply BitVec.eq_of_getLsbD_eq
  intro k hk
  unfold loHalf joinHalves
  simp only [BitVec.getLsbD_extractLsb', BitVec.getLsbD_setWidth, BitVec.getLsbD_append]
  simp +arith +decide [hk]
  intros
  omega

/-- A 64-bit value is determined by its halves. -/
theorem eq_of_halves_eq {a b : DesBlock} (hi : hiHalf a = hiHalf b) (lo : loHalf a = loHalf b) : a = b := by
  apply BitVec.eq_of_getLsbD_eq
  intro k hk
  by_cases h : k < 32
  · simpa [loHalf, h] using congrArg (fun x : Word => x.getLsbD k) lo
  · have e := congrArg (fun x : Word => x.getLsbD (k - 32)) hi
    simpa [hiHalf, show k - 32 < 32 by omega, show 32 + (k - 32) = k by omega] using e

/-- A 64-bit value is its halves put together. -/
theorem joinHalves_halves (b : DesBlock) : joinHalves (hiHalf b) (loHalf b) = b :=
  eq_of_halves_eq (by simp) (by simp)

/-! ## The permutation engine -/

/-- Output position i of `permute` is input position `T[i]` (43_des_round.md R180). -/
theorem getMsbD_permute {n m : Nat} (v : BitVec n) (t : List Nat) (h : t.length = m) (i : Nat) (hi : i < m) :
    (permute m v t).getMsbD i = v.getMsbD (t.getD i 0) := by
  subst h
  simp [permute, List.getD_eq_getElem?_getD, List.getElem?_eq_getElem hi]

/-- Two tables one after another. -/
theorem permute_permute {n m k : Nat} (v : BitVec n) (s t : List Nat) (hs : s.length = m) (ht : t.length = k)
    (hb : ∀ p, p ∈ t → p < m) : permute k (permute m v s) t = permute k v (t.map fun p => s.getD p 0) := by
  apply BitVec.eq_of_getMsbD_eq
  intro i hi
  have hit : i < t.length := by omega
  have e : t.getD i 0 = t[i] := by simp [List.getD_eq_getElem?_getD, List.getElem?_eq_getElem hit]
  rw [getMsbD_permute _ t ht i hi, getMsbD_permute _ _ (by simpa using ht) i hi, e,
    getMsbD_permute v s hs _ (hb _ (List.getElem_mem hit))]
  simp [List.getD_eq_getElem?_getD, List.getElem?_map, List.getElem?_eq_getElem hit]

/-! ## Register files -/

/-- Entry k of a round key sequence given entry by entry. -/
theorem roundKey_ofFn (f : Fin 11 → Block) (k : Nat) (h : k < 11) : roundKey (Vector.ofFn f) k = f ⟨k, h⟩ := by
  simp [roundKey, h]

/-- Entry k of a subkey file given entry by entry. -/
theorem subkey_ofFn (f : Fin 16 → Subkey) (k : Nat) (h : k < 16) : subkey (Vector.ofFn f) k = f ⟨k, h⟩ := by
  simp [subkey, h]

/-- A round key sequence is determined by its eleven entries. -/
theorem eq_of_roundKey_eq {a b : Vector Block 11} (h : ∀ k, k < 11 → roundKey a k = roundKey b k) : a = b := by
  apply Vector.ext
  intro k hk
  simpa [roundKey, hk] using h k hk

/-- A subkey file is determined by its sixteen entries. -/
theorem eq_of_subkey_eq {a b : Vector Subkey 16} (h : ∀ k, k < 16 → subkey a k = subkey b k) : a = b := by
  apply Vector.ext
  intro k hk
  simpa [subkey, hk] using h k hk

end Sys2Proof.Machine
end

