-- ==== Sys2Proof/Laws/Aes.lean ====
section
/-! SUPPORT. One equation per AES block function: what each byte or entry of its result is. -/

namespace Sys2Proof.Machine

/-- 40_aes_round.md R112. -/
theorem byteAt_subBytes (s : Block) (i : Nat) (h : i < 16) : byteAt (subBytes s) i = sbox (byteAt s i) :=
  byteAt_ofBytes _ i h

/-- 40_aes_round.md R113. -/
theorem byteAt_invSubBytes (s : Block) (i : Nat) (h : i < 16) : byteAt (invSubBytes s) i = invSbox (byteAt s i) :=
  byteAt_ofBytes _ i h

/-- 40_aes_round.md R114. -/
theorem byteAt_shiftRows (s : Block) (i : Nat) (h : i < 16) :
    byteAt (shiftRows s) i = byteAt s (shiftTable.getD i 0) :=
  byteAt_ofBytes _ i h

/-- 40_aes_round.md R115. -/
theorem byteAt_invShiftRows (s : Block) (i : Nat) (h : i < 16) :
    byteAt (invShiftRows s) i = byteAt s (invShiftTable.getD i 0) :=
  byteAt_ofBytes _ i h

/-- 40_aes_round.md R116 and R117. -/
theorem byteAt_mixWith (x : List (List Byte)) (s : Block) (i : Nat) (h : i < 16) :
    byteAt (mixWith x s) i = mixCol (fun k => byteAt s (4 * (i / 4) + k)) x (i % 4) :=
  byteAt_ofBytes _ i h

/-- 40_aes_round.md R118. -/
theorem byteAt_addRoundKey (s k : Block) (i : Nat) : byteAt (addRoundKey s k) i = byteAt s i ^^^ byteAt k i :=
  byteAt_xor s k i

/-- Adding a round key twice restores the block (40_aes_round.md R119). -/
theorem addRoundKey_addRoundKey (s k : Block) : addRoundKey (addRoundKey s k) k = s := by
  simp only [addRoundKey, BitVec.xor_assoc, BitVec.xor_self, BitVec.xor_zero]

/-- 41_aes_keysched.md R146. -/
theorem roundKey_keyExpFwd (key : Block) (k : Nat) (h : k < 11) : roundKey (keyExpFwd key) k = forwardKey key k :=
  roundKey_ofFn _ k h

/-- 41_aes_keysched.md R147. -/
theorem roundKey_keyExpDec (key : Block) (k : Nat) (h : k < 11) :
    roundKey (keyExpDec key) k =
      if k = 0 then forwardKey key 10 else if k = 10 then forwardKey key 0
      else invMixColumns (forwardKey key (10 - k)) :=
  roundKey_ofFn _ k h

end Sys2Proof.Machine
end

