-- ==== Sys2Proof/Laws/State.lean ====
section
/-! SUPPORT. One lemma per field per named update of the state: what the update leaves in the field. -/

namespace Sys2Proof.Machine

/-! ## `raise code s` -/

@[simp] theorem raise_aesState (code : ErrCode) (s : State) : (raise code s).aesState = s.aesState := rfl
@[simp] theorem raise_aesKey (code : ErrCode) (s : State) : (raise code s).aesKey = s.aesKey := rfl
@[simp] theorem raise_aesRk (code : ErrCode) (s : State) : (raise code s).aesRk = s.aesRk := rfl
@[simp] theorem raise_aesKsv (code : ErrCode) (s : State) : (raise code s).aesKsv = s.aesKsv := rfl
@[simp] theorem raise_aesKsdir (code : ErrCode) (s : State) : (raise code s).aesKsdir = s.aesKsdir := rfl
@[simp] theorem raise_desBlock (code : ErrCode) (s : State) : (raise code s).desBlock = s.desBlock := rfl
@[simp] theorem raise_desKey (code : ErrCode) (s : State) : (raise code s).desKey = s.desKey := rfl
@[simp] theorem raise_desSk (code : ErrCode) (s : State) : (raise code s).desSk = s.desSk := rfl
@[simp] theorem raise_desKsv (code : ErrCode) (s : State) : (raise code s).desKsv = s.desKsv := rfl
@[simp] theorem raise_desKsdir (code : ErrCode) (s : State) : (raise code s).desKsdir = s.desKsdir := rfl
@[simp] theorem raise_desKsel (code : ErrCode) (s : State) : (raise code s).desKsel = s.desKsel := rfl
@[simp] theorem raise_desNsk (code : ErrCode) (s : State) : (raise code s).desNsk = s.desNsk := rfl
@[simp] theorem raise_err (code : ErrCode) (s : State) : (raise code s).err = errValue code := rfl
@[simp] theorem raise_cmdLast (code : ErrCode) (s : State) : (raise code s).cmdLast = s.cmdLast := rfl
@[simp] theorem raise_pending (code : ErrCode) (s : State) : (raise code s).pending = s.pending := rfl
@[simp] theorem raise_responses (code : ErrCode) (s : State) : (raise code s).responses = s.responses := rfl
@[simp] theorem raise_busFault (code : ErrCode) (s : State) : (raise code s).busFault = s.busFault := rfl

/-! ## `succeed s` -/

@[simp] theorem succeed_aesState (s : State) : (succeed s).aesState = s.aesState := rfl
@[simp] theorem succeed_aesKey (s : State) : (succeed s).aesKey = s.aesKey := rfl
@[simp] theorem succeed_aesRk (s : State) : (succeed s).aesRk = s.aesRk := rfl
@[simp] theorem succeed_aesKsv (s : State) : (succeed s).aesKsv = s.aesKsv := rfl
@[simp] theorem succeed_aesKsdir (s : State) : (succeed s).aesKsdir = s.aesKsdir := rfl
@[simp] theorem succeed_desBlock (s : State) : (succeed s).desBlock = s.desBlock := rfl
@[simp] theorem succeed_desKey (s : State) : (succeed s).desKey = s.desKey := rfl
@[simp] theorem succeed_desSk (s : State) : (succeed s).desSk = s.desSk := rfl
@[simp] theorem succeed_desKsv (s : State) : (succeed s).desKsv = s.desKsv := rfl
@[simp] theorem succeed_desKsdir (s : State) : (succeed s).desKsdir = s.desKsdir := rfl
@[simp] theorem succeed_desKsel (s : State) : (succeed s).desKsel = s.desKsel := rfl
@[simp] theorem succeed_desNsk (s : State) : (succeed s).desNsk = s.desNsk := rfl
@[simp] theorem succeed_err (s : State) : (succeed s).err = errValue .ok := rfl
@[simp] theorem succeed_cmdLast (s : State) : (succeed s).cmdLast = s.cmdLast := rfl
@[simp] theorem succeed_pending (s : State) : (succeed s).pending = s.pending := rfl
@[simp] theorem succeed_responses (s : State) : (succeed s).responses = s.responses := rfl
@[simp] theorem succeed_busFault (s : State) : (succeed s).busFault = s.busFault := rfl

/-! ## `respond r s` -/

@[simp] theorem respond_aesState (r : Response) (s : State) : (respond r s).aesState = s.aesState := rfl
@[simp] theorem respond_aesKey (r : Response) (s : State) : (respond r s).aesKey = s.aesKey := rfl
@[simp] theorem respond_aesRk (r : Response) (s : State) : (respond r s).aesRk = s.aesRk := rfl
@[simp] theorem respond_aesKsv (r : Response) (s : State) : (respond r s).aesKsv = s.aesKsv := rfl
@[simp] theorem respond_aesKsdir (r : Response) (s : State) : (respond r s).aesKsdir = s.aesKsdir := rfl
@[simp] theorem respond_desBlock (r : Response) (s : State) : (respond r s).desBlock = s.desBlock := rfl
@[simp] theorem respond_desKey (r : Response) (s : State) : (respond r s).desKey = s.desKey := rfl
@[simp] theorem respond_desSk (r : Response) (s : State) : (respond r s).desSk = s.desSk := rfl
@[simp] theorem respond_desKsv (r : Response) (s : State) : (respond r s).desKsv = s.desKsv := rfl
@[simp] theorem respond_desKsdir (r : Response) (s : State) : (respond r s).desKsdir = s.desKsdir := rfl
@[simp] theorem respond_desKsel (r : Response) (s : State) : (respond r s).desKsel = s.desKsel := rfl
@[simp] theorem respond_desNsk (r : Response) (s : State) : (respond r s).desNsk = s.desNsk := rfl
@[simp] theorem respond_err (r : Response) (s : State) : (respond r s).err = s.err := rfl
@[simp] theorem respond_cmdLast (r : Response) (s : State) : (respond r s).cmdLast = s.cmdLast := rfl
@[simp] theorem respond_pending (r : Response) (s : State) : (respond r s).pending = s.pending := rfl
@[simp] theorem respond_responses (r : Response) (s : State) : (respond r s).responses = r :: s.responses := rfl
@[simp] theorem respond_busFault (r : Response) (s : State) : (respond r s).busFault = s.busFault := rfl

/-! ## `busError s` -/

@[simp] theorem busError_aesState (s : State) : (busError s).aesState = s.aesState := rfl
@[simp] theorem busError_aesKey (s : State) : (busError s).aesKey = s.aesKey := rfl
@[simp] theorem busError_aesRk (s : State) : (busError s).aesRk = s.aesRk := rfl
@[simp] theorem busError_aesKsv (s : State) : (busError s).aesKsv = s.aesKsv := rfl
@[simp] theorem busError_aesKsdir (s : State) : (busError s).aesKsdir = s.aesKsdir := rfl
@[simp] theorem busError_desBlock (s : State) : (busError s).desBlock = s.desBlock := rfl
@[simp] theorem busError_desKey (s : State) : (busError s).desKey = s.desKey := rfl
@[simp] theorem busError_desSk (s : State) : (busError s).desSk = s.desSk := rfl
@[simp] theorem busError_desKsv (s : State) : (busError s).desKsv = s.desKsv := rfl
@[simp] theorem busError_desKsdir (s : State) : (busError s).desKsdir = s.desKsdir := rfl
@[simp] theorem busError_desKsel (s : State) : (busError s).desKsel = s.desKsel := rfl
@[simp] theorem busError_desNsk (s : State) : (busError s).desNsk = s.desNsk := rfl
@[simp] theorem busError_err (s : State) : (busError s).err = s.err := rfl
@[simp] theorem busError_cmdLast (s : State) : (busError s).cmdLast = s.cmdLast := rfl
@[simp] theorem busError_pending (s : State) : (busError s).pending = s.pending := rfl
@[simp] theorem busError_responses (s : State) : (busError s).responses = .busError :: s.responses := rfl
@[simp] theorem busError_busFault (s : State) : (busError s).busFault = true := rfl

/-! ## `applyReset s` -/

@[simp] theorem applyReset_aesState (s : State) : (applyReset s).aesState = State.reset.aesState := rfl
@[simp] theorem applyReset_aesKey (s : State) : (applyReset s).aesKey = State.reset.aesKey := rfl
@[simp] theorem applyReset_aesRk (s : State) : (applyReset s).aesRk = State.reset.aesRk := rfl
@[simp] theorem applyReset_aesKsv (s : State) : (applyReset s).aesKsv = State.reset.aesKsv := rfl
@[simp] theorem applyReset_aesKsdir (s : State) : (applyReset s).aesKsdir = State.reset.aesKsdir := rfl
@[simp] theorem applyReset_desBlock (s : State) : (applyReset s).desBlock = State.reset.desBlock := rfl
@[simp] theorem applyReset_desKey (s : State) : (applyReset s).desKey = State.reset.desKey := rfl
@[simp] theorem applyReset_desSk (s : State) : (applyReset s).desSk = State.reset.desSk := rfl
@[simp] theorem applyReset_desKsv (s : State) : (applyReset s).desKsv = State.reset.desKsv := rfl
@[simp] theorem applyReset_desKsdir (s : State) : (applyReset s).desKsdir = State.reset.desKsdir := rfl
@[simp] theorem applyReset_desKsel (s : State) : (applyReset s).desKsel = State.reset.desKsel := rfl
@[simp] theorem applyReset_desNsk (s : State) : (applyReset s).desNsk = State.reset.desNsk := rfl
@[simp] theorem applyReset_err (s : State) : (applyReset s).err = State.reset.err := rfl
@[simp] theorem applyReset_cmdLast (s : State) : (applyReset s).cmdLast = State.reset.cmdLast := rfl
@[simp] theorem applyReset_pending (s : State) : (applyReset s).pending = s.pending := rfl
@[simp] theorem applyReset_responses (s : State) : (applyReset s).responses = s.responses := rfl
@[simp] theorem applyReset_busFault (s : State) : (applyReset s).busFault = s.busFault := rfl

/-! ## `writeAesSchedule dir s` -/

@[simp] theorem writeAesSchedule_aesState (dir : Dir) (s : State) :
    (writeAesSchedule dir s).aesState = s.aesState := rfl
@[simp] theorem writeAesSchedule_aesKey (dir : Dir) (s : State) : (writeAesSchedule dir s).aesKey = s.aesKey := rfl
@[simp] theorem writeAesSchedule_aesRk (dir : Dir) (s : State) :
    (writeAesSchedule dir s).aesRk = keyExp s.aesKey dir := rfl
@[simp] theorem writeAesSchedule_aesKsv (dir : Dir) (s : State) : (writeAesSchedule dir s).aesKsv = true := rfl
@[simp] theorem writeAesSchedule_aesKsdir (dir : Dir) (s : State) : (writeAesSchedule dir s).aesKsdir = dir := rfl
@[simp] theorem writeAesSchedule_desBlock (dir : Dir) (s : State) :
    (writeAesSchedule dir s).desBlock = s.desBlock := rfl
@[simp] theorem writeAesSchedule_desKey (dir : Dir) (s : State) : (writeAesSchedule dir s).desKey = s.desKey := rfl
@[simp] theorem writeAesSchedule_desSk (dir : Dir) (s : State) : (writeAesSchedule dir s).desSk = s.desSk := rfl
@[simp] theorem writeAesSchedule_desKsv (dir : Dir) (s : State) : (writeAesSchedule dir s).desKsv = s.desKsv := rfl
@[simp] theorem writeAesSchedule_desKsdir (dir : Dir) (s : State) :
    (writeAesSchedule dir s).desKsdir = s.desKsdir := rfl
@[simp] theorem writeAesSchedule_desKsel (dir : Dir) (s : State) : (writeAesSchedule dir s).desKsel = s.desKsel := rfl
@[simp] theorem writeAesSchedule_desNsk (dir : Dir) (s : State) : (writeAesSchedule dir s).desNsk = s.desNsk := rfl
@[simp] theorem writeAesSchedule_err (dir : Dir) (s : State) : (writeAesSchedule dir s).err = s.err := rfl
@[simp] theorem writeAesSchedule_cmdLast (dir : Dir) (s : State) : (writeAesSchedule dir s).cmdLast = s.cmdLast := rfl
@[simp] theorem writeAesSchedule_pending (dir : Dir) (s : State) : (writeAesSchedule dir s).pending = s.pending := rfl
@[simp] theorem writeAesSchedule_responses (dir : Dir) (s : State) :
    (writeAesSchedule dir s).responses = s.responses := rfl
@[simp] theorem writeAesSchedule_busFault (dir : Dir) (s : State) :
    (writeAesSchedule dir s).busFault = s.busFault := rfl

/-! ## `writeDesSchedule ksel nr dir s` -/

@[simp] theorem writeDesSchedule_aesState (ksel : BitVec 2) (nr : BitVec 5) (dir : Dir) (s : State) :
    (writeDesSchedule ksel nr dir s).aesState = s.aesState := rfl
@[simp] theorem writeDesSchedule_aesKey (ksel : BitVec 2) (nr : BitVec 5) (dir : Dir) (s : State) :
    (writeDesSchedule ksel nr dir s).aesKey = s.aesKey := rfl
@[simp] theorem writeDesSchedule_aesRk (ksel : BitVec 2) (nr : BitVec 5) (dir : Dir) (s : State) :
    (writeDesSchedule ksel nr dir s).aesRk = s.aesRk := rfl
@[simp] theorem writeDesSchedule_aesKsv (ksel : BitVec 2) (nr : BitVec 5) (dir : Dir) (s : State) :
    (writeDesSchedule ksel nr dir s).aesKsv = s.aesKsv := rfl
@[simp] theorem writeDesSchedule_aesKsdir (ksel : BitVec 2) (nr : BitVec 5) (dir : Dir) (s : State) :
    (writeDesSchedule ksel nr dir s).aesKsdir = s.aesKsdir := rfl
@[simp] theorem writeDesSchedule_desBlock (ksel : BitVec 2) (nr : BitVec 5) (dir : Dir) (s : State) :
    (writeDesSchedule ksel nr dir s).desBlock = s.desBlock := rfl
@[simp] theorem writeDesSchedule_desKey (ksel : BitVec 2) (nr : BitVec 5) (dir : Dir) (s : State) :
    (writeDesSchedule ksel nr dir s).desKey = s.desKey := rfl
@[simp] theorem writeDesSchedule_desSk (ksel : BitVec 2) (nr : BitVec 5) (dir : Dir) (s : State) :
    (writeDesSchedule ksel nr dir s).desSk = Vector.ofFn fun k => (keySchedule (selectKey s.desKey ksel) nr.toNat dir).getD k.val 0#48 := rfl
@[simp] theorem writeDesSchedule_desKsv (ksel : BitVec 2) (nr : BitVec 5) (dir : Dir) (s : State) :
    (writeDesSchedule ksel nr dir s).desKsv = true := rfl
@[simp] theorem writeDesSchedule_desKsdir (ksel : BitVec 2) (nr : BitVec 5) (dir : Dir) (s : State) :
    (writeDesSchedule ksel nr dir s).desKsdir = dir := rfl
@[simp] theorem writeDesSchedule_desKsel (ksel : BitVec 2) (nr : BitVec 5) (dir : Dir) (s : State) :
    (writeDesSchedule ksel nr dir s).desKsel = ksel := rfl
@[simp] theorem writeDesSchedule_desNsk (ksel : BitVec 2) (nr : BitVec 5) (dir : Dir) (s : State) :
    (writeDesSchedule ksel nr dir s).desNsk = nr := rfl
@[simp] theorem writeDesSchedule_err (ksel : BitVec 2) (nr : BitVec 5) (dir : Dir) (s : State) :
    (writeDesSchedule ksel nr dir s).err = s.err := rfl
@[simp] theorem writeDesSchedule_cmdLast (ksel : BitVec 2) (nr : BitVec 5) (dir : Dir) (s : State) :
    (writeDesSchedule ksel nr dir s).cmdLast = s.cmdLast := rfl
@[simp] theorem writeDesSchedule_pending (ksel : BitVec 2) (nr : BitVec 5) (dir : Dir) (s : State) :
    (writeDesSchedule ksel nr dir s).pending = s.pending := rfl
@[simp] theorem writeDesSchedule_responses (ksel : BitVec 2) (nr : BitVec 5) (dir : Dir) (s : State) :
    (writeDesSchedule ksel nr dir s).responses = s.responses := rfl
@[simp] theorem writeDesSchedule_busFault (ksel : BitVec 2) (nr : BitVec 5) (dir : Dir) (s : State) :
    (writeDesSchedule ksel nr dir s).busFault = s.busFault := rfl

/-! ## `writeReg .cmd v s` -/

@[simp] theorem writeCmd_aesState (v : Word) (s : State) : (writeReg .cmd v s).aesState = s.aesState := rfl
@[simp] theorem writeCmd_aesKey (v : Word) (s : State) : (writeReg .cmd v s).aesKey = s.aesKey := rfl
@[simp] theorem writeCmd_aesRk (v : Word) (s : State) : (writeReg .cmd v s).aesRk = s.aesRk := rfl
@[simp] theorem writeCmd_aesKsv (v : Word) (s : State) : (writeReg .cmd v s).aesKsv = s.aesKsv := rfl
@[simp] theorem writeCmd_aesKsdir (v : Word) (s : State) : (writeReg .cmd v s).aesKsdir = s.aesKsdir := rfl
@[simp] theorem writeCmd_desBlock (v : Word) (s : State) : (writeReg .cmd v s).desBlock = s.desBlock := rfl
@[simp] theorem writeCmd_desKey (v : Word) (s : State) : (writeReg .cmd v s).desKey = s.desKey := rfl
@[simp] theorem writeCmd_desSk (v : Word) (s : State) : (writeReg .cmd v s).desSk = s.desSk := rfl
@[simp] theorem writeCmd_desKsv (v : Word) (s : State) : (writeReg .cmd v s).desKsv = s.desKsv := rfl
@[simp] theorem writeCmd_desKsdir (v : Word) (s : State) : (writeReg .cmd v s).desKsdir = s.desKsdir := rfl
@[simp] theorem writeCmd_desKsel (v : Word) (s : State) : (writeReg .cmd v s).desKsel = s.desKsel := rfl
@[simp] theorem writeCmd_desNsk (v : Word) (s : State) : (writeReg .cmd v s).desNsk = s.desNsk := rfl
@[simp] theorem writeCmd_err (v : Word) (s : State) : (writeReg .cmd v s).err = s.err := rfl
@[simp] theorem writeCmd_cmdLast (v : Word) (s : State) : (writeReg .cmd v s).cmdLast = v := rfl
@[simp] theorem writeCmd_pending (v : Word) (s : State) : (writeReg .cmd v s).pending = s.pending := rfl
@[simp] theorem writeCmd_responses (v : Word) (s : State) : (writeReg .cmd v s).responses = s.responses := rfl
@[simp] theorem writeCmd_busFault (v : Word) (s : State) : (writeReg .cmd v s).busFault = s.busFault := rfl

end Sys2Proof.Machine
end

