-- ==== Sys2Proof/Laws/Flags.lean ====
section
/-! SUPPORT. What a command under its checks answers (30_encoding.md R88, 60_exceptions.md R301 and R302). -/

namespace Sys2Proof.Machine

/-- A command whose checks pass performs its semantics and sets ERR to OK (60_exceptions.md R302). -/
theorem runChecked_of_ok {i : Instr} {s : State} (f : State → State) (h : commandCheck i s = .ok) :
    runChecked i s f = .next (succeed (f s)) := by
  simp [runChecked, h]

/-- A command one of whose checks fails only raises the code (60_exceptions.md R301). -/
theorem runChecked_of_error {i : Instr} {s : State} (f : State → State) (h : commandCheck i s ≠ .ok) :
    runChecked i s f = .next (raise (commandCheck i s) s) := by
  unfold runChecked
  split
  · contradiction
  · rfl

/-- Everything a command under its checks can answer. -/
theorem runChecked_cases (i : Instr) (s : State) (f : State → State) :
    (commandCheck i s = .ok ∧ runChecked i s f = .next (succeed (f s))) ∨
    (commandCheck i s ≠ .ok ∧ runChecked i s f = .next (raise (commandCheck i s) s)) := by
  by_cases h : commandCheck i s = .ok
  · exact .inl ⟨h, runChecked_of_ok f h⟩
  · exact .inr ⟨h, runChecked_of_error f h⟩

/-- OK is the only code of value 0 (60_exceptions.md R300). -/
theorem errValue_eq_zero (c : ErrCode) : errValue c = 0#4 ↔ c = .ok := by
  cases c <;> decide

/-- The round counts the core supports (30_encoding.md R85). -/
theorem roundCountCheck_eq_ok (nr : BitVec 5) : roundCountCheck nr = .ok ↔ 1 ≤ nr.toNat ∧ nr.toNat ≤ 16 := by
  revert nr
  decide

/-- The fields a key-expanding single-DES command needs (60_exceptions.md R303). -/
theorem keyAndRoundCheck_eq_ok (ksel : BitVec 2) (nr : BitVec 5) :
    keyAndRoundCheck ksel nr = .ok ↔ ksel ≠ 3#2 ∧ 1 ≤ nr.toNat ∧ nr.toNat ≤ 16 := by
  by_cases h : ksel = 3#2
  · simp [keyAndRoundCheck, h]
  · simp [keyAndRoundCheck, h, roundCountCheck_eq_ok]

/-- When AES_ARK runs (60_exceptions.md R303). -/
theorem arkCheck_eq_ok (idx : BitVec 4) (s : State) :
    commandCheck (.aesArk idx) s = .ok ↔ idx.toNat ≤ 10 ∧ s.aesKsv = true := by
  by_cases h : 10 < idx.toNat <;> cases hk : s.aesKsv <;> simp [commandCheck, h, hk]
  omega

/-- When DES_ROUND runs (60_exceptions.md R303). -/
theorem desRoundCheck_eq_ok (idx : BitVec 4) (s : State) :
    commandCheck (.desRound idx) s = .ok ↔ s.desKsv = true ∧ idx.toNat < s.desNsk.toNat := by
  by_cases h : s.desNsk.toNat ≤ idx.toNat <;> cases hk : s.desKsv <;> simp [commandCheck, h, hk]
  omega

end Sys2Proof.Machine
end

