-- ==== Sys2Proof/Laws/Exec.lean ====
section
/-! SUPPORT. Everything `exec` can answer, once for all commands: one equation per command with its semantics named, and
the two cases a command ends in. -/

namespace Sys2Proof.Machine

/-- What a command does to the registers when its checks pass (the rule named in 30_encoding.md R87), before ERR is set. -/
def semantics (i : Instr) (s : State) : State :=
  match i with
  | .nop => s
  | .aesSub => { s with aesState := subBytes s.aesState }
  | .aesInvsub => { s with aesState := invSubBytes s.aesState }
  | .aesShift => { s with aesState := shiftRows s.aesState }
  | .aesInvshift => { s with aesState := invShiftRows s.aesState }
  | .aesMix => { s with aesState := mixColumns s.aesState }
  | .aesInvmix => { s with aesState := invMixColumns s.aesState }
  | .aesArk idx => { s with aesState := addRoundKey s.aesState (roundKey s.aesRk idx.toNat) }
  | .aesKeyexp dir => writeAesSchedule dir s
  | .aesEnc => { writeAesSchedule .enc s with aesState := cipher s.aesState (keyExpFwd s.aesKey) }
  | .aesDec => { writeAesSchedule .dec s with aesState := invCipher s.aesState (keyExpDec s.aesKey) }
  | .desIp => { s with desBlock := initialPerm s.desBlock }
  | .desFp => { s with desBlock := finalPerm s.desBlock }
  | .desSwap => { s with desBlock := swapHalves s.desBlock }
  | .desRound idx => { s with desBlock := feistelRound s.desBlock (subkey s.desSk idx.toNat) }
  | .desKeyexp dir ksel nr => writeDesSchedule ksel nr dir s
  | .desEnc ksel nr =>
    { writeDesSchedule ksel nr .enc s with
      desBlock := desCrypt s.desBlock (selectKey s.desKey ksel) nr.toNat .enc }
  | .desDec ksel nr =>
    { writeDesSchedule ksel nr .dec s with
      desBlock := desCrypt s.desBlock (selectKey s.desKey ksel) nr.toNat .dec }
  | .tdesEnc form =>
    { writeDesSchedule (k3sel form) 16#5 .enc s with desBlock := tdesEncrypt s.desKey form s.desBlock }
  | .tdesDec form => { writeDesSchedule 0#2 16#5 .dec s with desBlock := tdesDecrypt s.desKey form s.desBlock }

/-- Every command is its semantics under its checks (30_encoding.md R88). -/
theorem exec_eq (i : Instr) (s : State) : exec i s = runChecked i s (semantics i) := by
  cases i <;> rfl

/-- Everything a command can answer. -/
theorem exec_cases (i : Instr) (s : State) :
    (commandCheck i s = .ok ∧ exec i s = .next (succeed (semantics i s))) ∨
    (commandCheck i s ≠ .ok ∧ exec i s = .next (raise (commandCheck i s) s)) := by
  rw [exec_eq]
  exact runChecked_cases i s (semantics i)

/-- Inversion: the next state of a command. -/
theorem exec_next {i : Instr} {s t : State} (h : exec i s = .next t) :
    (commandCheck i s = .ok ∧ t = succeed (semantics i s)) ∨
    (commandCheck i s ≠ .ok ∧ t = raise (commandCheck i s) s) := by
  rcases exec_cases i s with ⟨hc, e⟩ | ⟨hc, e⟩ <;> rw [e] at h <;> cases h
  · exact .inl ⟨hc, rfl⟩
  · exact .inr ⟨hc, rfl⟩

end Sys2Proof.Machine
end

