-- ==== Sys2Proof/Laws/Window.lean ====
section
/-! SUPPORT. The register map (10_state.md R32): the offset of a register is where the core finds it. -/

namespace Sys2Proof.Machine

/-- A named register stands at its offset. -/
theorem regAt_regOffset (r : Reg) (off : Nat) (h : regOffset r = some off) : regAt off = r := by
  cases r with
  | aesState j => cases h; revert j; decide
  | aesKey j => cases h; revert j; decide
  | desKeyHi n => cases h; revert n; decide
  | desKeyLo n => cases h; revert n; decide
  | aesRk k j => cases h; revert k j; decide
  | desSkHi k => cases h; revert k; decide
  | desSkLo k => cases h; revert k; decide
  | reserved => cases h
  | _ => cases h; decide

/-- Every named register stands at an aligned offset of the window (20_memory.md R60, R62). -/
theorem regOffset_aligned (r : Reg) (off : Nat) (h : regOffset r = some off) : off % 4 = 0 ∧ off < 1024 := by
  cases r <;> simp only [regOffset, Option.some.injEq, reduceCtorEq] at h <;> omega

/-- CMD is the register at offset 0x004, and at no other aligned offset. -/
theorem regAt_eq_cmd : ∀ off : BitVec 10, off.toNat % 4 = 0 → (regAt off.toNat = .cmd ↔ off = 0x004#10) := by
  decide +kernel

end Sys2Proof.Machine
end

