-- ==== Sys2Proof/Laws/Bus.lean ====
section
/-! SUPPORT. What a step does, by the event at the head of `pending`: the cases every claim about `step` goes through. -/

namespace Sys2Proof.Machine

/-- With no event offered the state stays (00_scope.md R9). -/
theorem step_idle {s : State} (h : s.pending = []) : step s = .next s := by
  simp [step, acceptNext, h]

/-- With an event offered, the step performs it on the state without it. -/
theorem step_event {s : State} {e : HostEvent} {rest : List HostEvent} (h : s.pending = e :: rest) :
    step s = performEvent e { s with pending := rest } := by
  simp [step, acceptNext, h]

/-- A transaction the core does not define: a bus error (20_memory.md R63). -/
theorem performTransaction_illegal {t : Transaction} (s : State) (h : legalTransaction t = false) :
    performTransaction t s = .next (busError s) := by
  simp [performTransaction, h]

/-- A read (20_memory.md R67). -/
theorem performTransaction_read {t : Transaction} (s : State) (h : legalTransaction t = true) (hw : t.write = false) :
    performTransaction t s = .next (respond (.data (hostRead t.addr s)) s) := by
  simp [performTransaction, h, hw]

/-- A write (20_memory.md R68). -/
theorem performTransaction_write {t : Transaction} (s : State) (h : legalTransaction t = true) (hw : t.write = true) :
    performTransaction t s = respondAfter (hostWrite t.addr t.wdata s) := by
  simp [performTransaction, h, hw]

/-- A write to CMD (30_encoding.md R88). -/
theorem hostWrite_cmd (v : Word) (s : State) : hostWrite 0x004#10 v s = runCommandWord v s := rfl

/-- A write to any other register only writes it. -/
theorem hostWrite_other {off : BitVec 10} (v : Word) (s : State) (h : regAt off.toNat ≠ .cmd) :
    hostWrite off v s = .next (writeReg (regAt off.toNat) v s) := by
  unfold hostWrite
  split
  · contradiction
  · rfl

/-- An illegal word (30_encoding.md R89). -/
theorem runCommandWord_illegal {w : Word} {e : Illegal} (s : State) (h : decode w = .illegal e) :
    runCommandWord w s = .next (raise .illegalCommand (writeReg .cmd w s)) := by
  simp [runCommandWord, h]

/-- A legal word (30_encoding.md R88). -/
theorem runCommandWord_ok {w : Word} {i : Instr} (s : State) (h : decode w = .ok i) :
    runCommandWord w s = exec i (writeReg .cmd w s) := by
  simp [runCommandWord, h]

/-- Everything a command word can do: CMD_LAST, and then either an error code alone or a command's semantics and OK. -/
theorem runCommandWord_cases (w : Word) (s : State) :
    (∃ code, code ≠ .ok ∧ runCommandWord w s = .next (raise code (writeReg .cmd w s))) ∨
    (∃ i, decode w = .ok i ∧ runCommandWord w s = .next (succeed (semantics i (writeReg .cmd w s)))) := by
  cases h : decode w with
  | illegal e => exact .inl ⟨.illegalCommand, by decide, runCommandWord_illegal s h⟩
  | ok i =>
    rw [runCommandWord_ok s h]
    rcases exec_cases i (writeReg .cmd w s) with ⟨_, e⟩ | ⟨hc, e⟩
    · exact .inr ⟨i, rfl, e⟩
    · exact .inl ⟨_, hc, e⟩

/-- Every host write answers a next state and leaves the host's own fields. -/
theorem hostWrite_next (off : BitVec 10) (v : Word) (s : State) :
    ∃ u, hostWrite off v s = .next u ∧
      u.pending = s.pending ∧ u.responses = s.responses ∧ u.busFault = s.busFault := by
  by_cases h : regAt off.toNat = .cmd
  · rw [show hostWrite off v s = runCommandWord v s by simp [hostWrite, h]]
    rcases runCommandWord_cases v s with ⟨c, _, e⟩ | ⟨i, _, e⟩
    · exact ⟨_, e, rfl, rfl, rfl⟩
    · refine ⟨_, e, ?_, ?_, ?_⟩ <;> cases i <;> simp [semantics, writeReg]
  · rw [hostWrite_other v s h]
    refine ⟨_, rfl, ?_, ?_, ?_⟩ <;> cases regAt off.toNat <;> rfl

end Sys2Proof.Machine
end

