-- ==== Sys2Proof/Laws/Decode.lean ====
section
/-! SUPPORT. What the decoder accepts (30_encoding.md R86 to R89). -/

namespace Sys2Proof

/-- "at most one row matches any word" (30_encoding.md R87): two rows differ on a bit that both masks hold. -/
theorem opcodeMap_rows_disjoint :
    opcodeMap.Pairwise fun a b => a.pattern &&& (a.mask &&& b.mask) ≠ b.pattern &&& (a.mask &&& b.mask) := by
  decide

/-- No pattern has a bit outside its mask. -/
theorem opcodeMap_patterns_masked : ∀ r ∈ opcodeMap, r.pattern &&& r.mask = r.pattern := by
  decide

/-- A word that decodes selects a row whose mask and pattern it meets, and its command is the row's, checked
(30_encoding.md R88). -/
theorem decode_ok_row {w : Word} {i : Instr} (h : decode w = .ok i) :
    ∃ r ∈ opcodeMap, w &&& r.mask = r.pattern ∧ checkFields (r.build w) = .ok i := by
  unfold decode at h
  split at h
  · cases h
  · next r hr =>
    refine ⟨r, List.mem_of_find?_eq_some hr, ?_, h⟩
    simpa using List.find?_some hr

/-- The legality checks change no field and pass only legal fields (30_encoding.md R89). -/
theorem checkFields_ok {i j : Instr} (h : checkFields i = .ok j) : j = i ∧ i.wellFormed = true := by
  have ksel_legal : ∀ k : BitVec 2, k ≠ 3#2 → k.toNat ≤ 2 := by decide
  cases i <;> simp only [checkFields] at h <;>
    first
    | (cases h; exact ⟨rfl, rfl⟩)
    | (split at h
       · cases h
       · next hc =>
         cases h
         refine ⟨rfl, ?_⟩
         simp only [Instr.wellFormed, decide_eq_true_eq]
         first
         | omega
         | exact ksel_legal _ hc)

/-- The decoder answers only legal commands (30_encoding.md R88). -/
theorem decode_wellFormed {w : Word} {i : Instr} (h : decode w = .ok i) : i.wellFormed = true := by
  obtain ⟨r, _, _, hc⟩ := decode_ok_row h
  obtain ⟨rfl, hw⟩ := checkFields_ok hc
  exact hw

end Sys2Proof
end

