-- ==== Sys2Proof/Laws/Des.lean ====
section
/-! SUPPORT. One equation per DES function: the halves of a round's result, the permutations, the entries of a schedule. -/

namespace Sys2Proof.Machine

/-- The new L is the old R (43_des_round.md R189). -/
@[simp] theorem hiHalf_feistelRound (b : DesBlock) (k : Subkey) : hiHalf (feistelRound b k) = loHalf b :=
  hiHalf_joinHalves _ _

/-- The new R is `f(R, K) XOR L` (43_des_round.md R189). -/
@[simp] theorem loHalf_feistelRound (b : DesBlock) (k : Subkey) :
    loHalf (feistelRound b k) = feistelF (loHalf b) k ^^^ hiHalf b :=
  loHalf_joinHalves _ _

/-- 43_des_round.md R190. -/
@[simp] theorem hiHalf_swapHalves (b : DesBlock) : hiHalf (swapHalves b) = loHalf b := hiHalf_joinHalves _ _

/-- 43_des_round.md R190. -/
@[simp] theorem loHalf_swapHalves (b : DesBlock) : loHalf (swapHalves b) = hiHalf b := loHalf_joinHalves _ _

/-- 43_des_round.md R181. -/
theorem getMsbD_initialPerm (b : DesBlock) (i : Nat) (h : i < 64) :
    (initialPerm b).getMsbD i = b.getMsbD (ipTable.getD i 0) :=
  getMsbD_permute b ipTable rfl i h

/-- 43_des_round.md R182. -/
theorem getMsbD_finalPerm (b : DesBlock) (i : Nat) (h : i < 64) :
    (finalPerm b).getMsbD i = b.getMsbD (fpTable.getD i 0) :=
  getMsbD_permute b fpTable rfl i h

/-- A schedule of nr rounds has nr subkeys (44_des_keysched.md R224). -/
@[simp] theorem length_keySchedule (key : DesBlock) (nr : Nat) (dir : Dir) : (keySchedule key nr dir).length = nr := by
  cases dir <;> simp [keySchedule]

/-- Entry k in generation order (44_des_keysched.md R224). -/
theorem keySchedule_enc_getD (key : DesBlock) (nr k : Nat) (h : k < nr) :
    (keySchedule key nr .enc).getD k 0#48 = generatedKey key k := by
  simp [keySchedule, List.getD_eq_getElem?_getD, List.getElem?_range h]

/-- The decryption sequence is the encryption sequence reversed (44_des_keysched.md R224). -/
theorem keySchedule_dec (key : DesBlock) (nr : Nat) : keySchedule key nr .dec = (keySchedule key nr .enc).reverse := rfl

/-- Entry k of DES_SK after a schedule is written (44_des_keysched.md R226). -/
theorem subkey_writeDesSchedule (ksel : BitVec 2) (nr : BitVec 5) (dir : Dir) (s : State) (k : Nat) (h : k < 16) :
    subkey (writeDesSchedule ksel nr dir s).desSk k =
      (keySchedule (selectKey s.desKey ksel) nr.toNat dir).getD k 0#48 :=
  subkey_ofFn _ k h

end Sys2Proof.Machine
end

