-- ==== Sys2Proof/Laws/PerInstr.lean ====
section
/-! SUPPORT. The family RowMatch: the word of every command, whatever its fields hold, selects the command's own row of the
opcode map (30_encoding.md R87). One lemma per constructor. -/

namespace Sys2Proof.Laws.RowMatch

/-- The command's word meets its row: `(w AND mask) = match`, where the row's match is the opcode alone (R87). -/
def Statement (i : Instr) : Prop := encode i &&& rowMask i = (opcode i).setWidth 32

theorem nop : Statement .nop := by unfold Statement; decide
theorem aesSub : Statement .aesSub := by unfold Statement; decide
theorem aesInvsub : Statement .aesInvsub := by unfold Statement; decide
theorem aesShift : Statement .aesShift := by unfold Statement; decide
theorem aesInvshift : Statement .aesInvshift := by unfold Statement; decide
theorem aesMix : Statement .aesMix := by unfold Statement; decide
theorem aesInvmix : Statement .aesInvmix := by unfold Statement; decide
theorem aesArk (idx : BitVec 4) : Statement (.aesArk idx) := by unfold Statement; revert idx; decide
theorem aesKeyexp (dir : Dir) : Statement (.aesKeyexp dir) := by unfold Statement; cases dir <;> decide
theorem aesEnc : Statement .aesEnc := by unfold Statement; decide
theorem aesDec : Statement .aesDec := by unfold Statement; decide
theorem desIp : Statement .desIp := by unfold Statement; decide
theorem desFp : Statement .desFp := by unfold Statement; decide
theorem desSwap : Statement .desSwap := by unfold Statement; decide
theorem desRound (idx : BitVec 4) : Statement (.desRound idx) := by unfold Statement; revert idx; decide
theorem desKeyexp (dir : Dir) (ksel : BitVec 2) (nr : BitVec 5) : Statement (.desKeyexp dir ksel nr) := by
  unfold Statement
  cases dir <;> revert ksel nr <;> decide +kernel
theorem desEnc (ksel : BitVec 2) (nr : BitVec 5) : Statement (.desEnc ksel nr) := by
  unfold Statement
  revert ksel nr
  decide +kernel
theorem desDec (ksel : BitVec 2) (nr : BitVec 5) : Statement (.desDec ksel nr) := by
  unfold Statement
  revert ksel nr
  decide +kernel
theorem tdesEnc (keys : TdesKeys) : Statement (.tdesEnc keys) := by unfold Statement; cases keys <;> decide
theorem tdesDec (keys : TdesKeys) : Statement (.tdesDec keys) := by unfold Statement; cases keys <;> decide

end Sys2Proof.Laws.RowMatch
end

