-- ==== Sys2Proof/Tests/Slice0.lean ====
section
/-! SUPPORT. The model's own tests: expected values from 95_test_vectors.md and the examples of the 4N_ files; one step or
one operation each. The `witness_` theorems show states and operands that meet the hypotheses of the statements. -/

namespace Sys2Proof.Tests

open Sys2Proof.Machine

-- One theorem at a time: the vectors are long kernel evaluations, and Lean would keep a thread waiting for each.
set_option Elab.async false

/-- The next state of an outcome; the reset state where there is none. -/
def after (o : Host.Outcome State Fault Refusal) : State :=
  match o with
  | .next s => s
  | .fault _ => State.reset
  | .refused _ => State.reset

/-- A state with the AES block and key given. -/
def aesStart (block key : Block) : State := { State.reset with aesState := block, aesKey := key }

/-- A state with the DES block and first key given. -/
def desStart (block key : DesBlock) : State :=
  { State.reset with desBlock := block, desKey := #v[key, 0#64, 0#64] }

/-- The state whose host's next transaction writes the word to CMD, one step on. -/
def command (s : State) (w : Nat) : State := after (step (s.withFetchWord 32 w))

/-! ## Well-formedness: each check refuses an ill-formed term -/

theorem test_wf_ark_index : (Instr.aesArk 10#4).wellFormed = true ∧ (Instr.aesArk 11#4).wellFormed = false := by decide
theorem test_wf_keyexp_select :
    (Instr.desKeyexp .enc 2#2 16#5).wellFormed = true ∧ (Instr.desKeyexp .enc 3#2 16#5).wellFormed = false := by decide
theorem test_wf_enc_select :
    (Instr.desEnc 2#2 0#5).wellFormed = true ∧ (Instr.desEnc 3#2 16#5).wellFormed = false := by decide
theorem test_wf_dec_select :
    (Instr.desDec 2#2 31#5).wellFormed = true ∧ (Instr.desDec 3#2 16#5).wellFormed = false := by decide

/-! ## Decoding: words written out bit by bit from 30_encoding.md R80 and R87 -/

theorem test_decode_nop : decode 0b00000000000000000000000000000000#32 = .ok .nop := by decide
theorem test_decode_aesSub : decode 0b00000000000000000000000000010000#32 = .ok .aesSub := by decide
theorem test_decode_aesInvsub : decode 0b00000000000000000000000000010001#32 = .ok .aesInvsub := by decide
theorem test_decode_aesShift : decode 0b00000000000000000000000000010010#32 = .ok .aesShift := by decide
theorem test_decode_aesInvshift : decode 0b00000000000000000000000000010011#32 = .ok .aesInvshift := by decide
theorem test_decode_aesMix : decode 0b00000000000000000000000000010100#32 = .ok .aesMix := by decide
theorem test_decode_aesInvmix : decode 0b00000000000000000000000000010101#32 = .ok .aesInvmix := by decide
theorem test_decode_aesArk : decode 0b00000000000000000000100100010110#32 = .ok (.aesArk 9#4) := by decide
theorem test_decode_aesKeyexp : decode 0b00000000000000000001000000100000#32 = .ok (.aesKeyexp .dec) := by decide
theorem test_decode_aesEnc : decode 0b00000000000000000000000000110000#32 = .ok .aesEnc := by decide
theorem test_decode_aesDec : decode 0b00000000000000000000000000110001#32 = .ok .aesDec := by decide
theorem test_decode_desIp : decode 0b00000000000000000000000001000000#32 = .ok .desIp := by decide
theorem test_decode_desFp : decode 0b00000000000000000000000001000001#32 = .ok .desFp := by decide
theorem test_decode_desSwap : decode 0b00000000000000000000000001000010#32 = .ok .desSwap := by decide
theorem test_decode_desRound : decode 0b00000000000000000000110101000011#32 = .ok (.desRound 13#4) := by decide
theorem test_decode_desKeyexp :
    decode 0b00000000000010111001000001010000#32 = .ok (.desKeyexp .dec 2#2 11#5) := by decide
theorem test_decode_desEnc : decode 0b00000000000100000100000001100000#32 = .ok (.desEnc 1#2 16#5) := by decide
theorem test_decode_desDec : decode 0b00000000000111111000000001100001#32 = .ok (.desDec 2#2 31#5) := by decide
theorem test_decode_tdesEnc : decode 0b00000000000000000010000001110000#32 = .ok (.tdesEnc .three) := by decide
theorem test_decode_tdesDec : decode 0b00000000000000000000000001110001#32 = .ok (.tdesDec .two) := by decide

/-- 95_test_vectors.md V-ERR: the illegal words, each with the reason. -/
theorem test_decode_illegal :
    [0x00000001#32, 0x000000FF#32, 0x80000010#32, 0x00000110#32, 0x00200060#32, 0x00000B16#32, 0x00000F16#32,
      0x0010C050#32, 0x0000C060#32].map decode =
    [.illegal .noRow, .illegal .noRow, .illegal .noRow, .illegal .noRow, .illegal .noRow, .illegal .arkIndex, .illegal .arkIndex,
      .illegal .keySelect, .illegal .keySelect] := by decide

/-- The host's numbering of a word: bit 0 the least significant, 32 bits (30_encoding.md R90). -/
theorem test_decodeTableWord :
    decodeTableWord 32 0x00000A16 = some (.aesArk 10#4) ∧ decodeTableWord 32 0x00000B16 = none ∧
    decodeTableWord 32 0x00104060 = some (.desEnc 1#2 16#5) := by decide

/-! ## GF(2^8) and the tables (V-GF, V-SBOX, 93_implementation_defined.md part 3) -/

theorem test_gfmul_vectors :
    gfmul 0x57#8 0x83#8 = 0xC1#8 ∧ gfmul 0x57#8 0x13#8 = 0xFE#8 ∧ gfmul 0x80#8 0x02#8 = 0x1B#8 ∧
    gfmul 0x02#8 0x87#8 = 0x15#8 ∧ gfmul 0x00#8 0xFF#8 = 0x00#8 ∧ gfmul 0x01#8 0xAB#8 = 0xAB#8 ∧
    gfmul 0xFF#8 0xFF#8 = 0x13#8 ∧ gfmul 0x53#8 0xCA#8 = 0x01#8 ∧ gfmul 0x0E#8 0x0B#8 = 0x62#8 := by decide +kernel

theorem test_sbox_vectors :
    [0x00#8, 0x01#8, 0x10#8, 0x53#8, 0xC9#8, 0xFF#8].map sbox = [0x63#8, 0x7C#8, 0xCA#8, 0xED#8, 0xDD#8, 0x16#8] ∧
    [0x63#8, 0x7C#8, 0x00#8, 0xED#8, 0x16#8].map invSbox = [0x00#8, 0x01#8, 0x52#8, 0x53#8, 0xFF#8] := by
  decide +kernel

/-- `INV_SBOX[SBOX[x]] = x` for all 256 bytes (40_aes_round.md R105). -/
theorem test_invSbox_sbox : ∀ x : Byte, invSbox (sbox x) = x := by decide +kernel

/-- The ShiftRows tables are the rotations of 40_aes_round.md R107 and R108. -/
theorem test_shift_tables :
    shiftTable = (List.range 16).map (fun i => 4 * ((i / 4 + i % 4) % 4) + i % 4) ∧
    invShiftTable = (List.range 16).map (fun i => 4 * ((i / 4 + 4 - i % 4) % 4) + i % 4) := by decide

/-- `RC[i] = xtime(RC[i-1])`, `RC[0] = 0x01` (41_aes_keysched.md R143). -/
theorem test_round_constants :
    roundConstants.getD 0 0#8 = 0x01#8 ∧ roundConstants.tail = roundConstants.dropLast.map xtime := by decide +kernel

/-- `FP[IP[i]] = i` (43_des_round.md R182), and LS sums to 28 (44_des_keysched.md R222). -/
theorem test_des_tables : (ipTable.map fun p => fpTable.getD p 0) = List.range 64 ∧ shiftSchedule.sum = 28 := by decide

/-- Each row of each DES S-box is a permutation of 0..15 (43_des_round.md R185). -/
theorem test_des_box_rows :
    ∀ j < 8, (desBox j).length = 4 ∧ ∀ row ∈ desBox j, row.length = 16 ∧ ∀ v < 16, v ∈ row := by decide +kernel

/-- The parity positions are the ones PC1 omits (44_des_keysched.md R220), and PC2 omits eight (R221). -/
theorem test_pc_tables :
    ((List.range 64).filter fun p => decide (p ∉ pc1Table)) = [7, 15, 23, 31, 39, 47, 55, 63] ∧
    ((List.range 56).filter fun p => decide (p ∉ pc2Table)) = [8, 17, 21, 24, 34, 37, 42, 53] := by decide +kernel

/-! ## AES commands, one step each -/

theorem test_aesSub :
    (command (aesStart 0x000102030405060708090a0b0c0d0e0f#128 0#128) 0x10).aesState =
      0x637c777bf26b6fc53001672bfed7ab76#128 := by decide +kernel

theorem test_aesInvsub :
    (command (aesStart 0x63cab7040953d051cd60e0e7ba70e18c#128 0#128) 0x11).aesState =
      0x00102030405060708090a0b0c0d0e0f0#128 := by decide +kernel

theorem test_aesShift :
    (command (aesStart 0x000102030405060708090a0b0c0d0e0f#128 0#128) 0x12).aesState =
      0x00050a0f04090e03080d02070c01060b#128 := by decide +kernel

theorem test_aesInvshift :
    (command (aesStart 0x6353e08c0960e104cd70b751bacad0e7#128 0#128) 0x13).aesState =
      0x63cab7040953d051cd60e0e7ba70e18c#128 := by decide +kernel

theorem test_aesMix :
    (command (aesStart 0xdb135345f20a225cd4d4d4d52d26314c#128 0#128) 0x14).aesState =
      0x8e4da1bc9fdc589dd5d5d7d64d7ebdf8#128 := by decide +kernel

theorem test_aesInvmix :
    (command (aesStart 0xdb135345f20a225cd4d4d4d52d26314c#128 0#128) 0x15).aesState =
      0x32a41d55aec36982ddd9dfdaa05050d6#128 := by decide +kernel

/-- V-ARK: `aes.ark 10` XORs `AES_RK[10]`, here the decryption schedule's key. -/
theorem test_aesArk :
    (command { aesStart 0x00112233445566778899aabbccddeeff#128 0#128 with
      aesRk := keyExp 0x000102030405060708090a0b0c0d0e0f#128 .dec, aesKsv := true } 0xA16).aesState =
      0x00102030405060708090a0b0c0d0e0f0#128 := by decide +kernel

/-- V-ERR: no schedule after reset. -/
theorem test_aesArk_no_schedule : statusWord (command State.reset 0x16) = 0x00000005#32 := by decide +kernel

/-- V-AES-KS: two entries of each schedule. -/
theorem test_aesKeyexp :
    roundKey (command (aesStart 0#128 0x000102030405060708090a0b0c0d0e0f#128) 0x20).aesRk 9 =
      0x549932d1f08557681093ed9cbe2c974e#128 ∧
    roundKey (command (aesStart 0#128 0x000102030405060708090a0b0c0d0e0f#128) 0x1020).aesRk 8 =
      0xa0db02992286d160a2dc029c2485d561#128 := by decide +kernel

theorem test_aesKeyexp_status :
    statusWord (command State.reset 0x20) = 0x00000100#32 ∧ statusWord (command State.reset 0x1020) = 0x00000300#32 := by
  decide +kernel

/-- P1, the FIPS-197 appendix example. -/
theorem test_aesEnc :
    (command (aesStart 0x3243f6a8885a308d313198a2e0370734#128 0x2b7e151628aed2a6abf7158809cf4f3c#128) 0x30).aesState =
      0x3925841d02dc09fbdc118597196a0b32#128 := by decide +kernel

/-- S1 backwards. -/
theorem test_aesDec :
    (command (aesStart 0x69c4e0d86a7b0430d8cdb78070b4c55a#128 0x000102030405060708090a0b0c0d0e0f#128) 0x31).aesState =
      0x00112233445566778899aabbccddeeff#128 := by decide +kernel

/-! ## DES commands, one step each -/

theorem test_desIp :
    (command (desStart 0x0123456789abcdef#64 0#64) 0x40).desBlock = 0xcc00ccfff0aaf0aa#64 := by decide +kernel

theorem test_desFp :
    (command (desStart 0x0a4cd99543423234#64 0#64) 0x41).desBlock = 0x85e813540f0ab405#64 := by decide +kernel

theorem test_desSwap :
    (command (desStart 0x434232340a4cd995#64 0#64) 0x42).desBlock = 0x0a4cd99543423234#64 := by decide +kernel

/-- V-DES-F, the internal functions. -/
theorem test_des_functions :
    permute 48 0xf0aaf0aa#32 eTable = 0x7a15557a1555#48 ∧ sLayer 0x6117ba866527#48 = 0x5c82b597#32 ∧
    permute 32 0x5c82b597#32 pTable = 0x234aa9bb#32 ∧ desSbox 0 0b011011#6 = 5#4 ∧ desSbox 7 0b100001#6 = 2#4 := by
  decide +kernel

/-- V-DES-KAT: the last round of S2, subkey 15. -/
theorem test_desRound :
    (command { desStart 0xc28c960d43423234#64 0#64 with
      desSk := Vector.replicate 16 0xcb3d8b0e17f5#48, desKsv := true, desNsk := 16#5 } 0xF43).desBlock =
      0x434232340a4cd995#64 := by decide +kernel

/-- V-ERR: an index not below DES_NSK. -/
theorem test_desRound_index :
    (command { State.reset with desKsv := true, desNsk := 2#5 } 0x243).err = 0x5#4 ∧
    (command { State.reset with desKsv := true, desNsk := 2#5 } 0x143).err = 0x0#4 := by decide +kernel

/-- V-DES-KS: `des.keyexp k1, dec, 2`. -/
theorem test_desKeyexp :
    (command (desStart 0#64 0x133457799bbcdff1#64) 0x00021050).desSk.toList.take 3 =
      [0x79aed9dbc9e5#48, 0x1b02effc7072#48, 0#48] ∧
    statusWord (command (desStart 0#64 0x133457799bbcdff1#64) 0x00021050) = 0x00023000#32 := by decide +kernel

/-- V-DES-KS: the last and a middle subkey. -/
theorem test_generatedKey :
    generatedKey 0x133457799bbcdff1#64 15 = 0xcb3d8b0e17f5#48 ∧
    generatedKey 0x133457799bbcdff1#64 9 = 0xb1f347ba464f#48 := by decide +kernel

/-- S2. -/
theorem test_desEnc :
    (command (desStart 0x0123456789abcdef#64 0x133457799bbcdff1#64) 0x00100060).desBlock = 0x85e813540f0ab405#64 := by
  decide +kernel

/-- V-ERR: NR = 0, and KSEL = 3 before the NR check. -/
theorem test_desEnc_errors :
    statusWord (command State.reset 0x00000060) = 0x00000003#32 ∧
    statusWord (command State.reset 0x0000C060) = 0x00000004#32 := by decide +kernel

/-- V-DES-NR: two rounds. -/
theorem test_desDec :
    (command (desStart 0x9da4cee1048ceec0#64 0x133457799bbcdff1#64) 0x00020061).desBlock = 0x0123456789abcdef#64 := by
  decide +kernel

/-- V-ERR: NR = 31. -/
theorem test_desDec_rounds : statusWord (command State.reset 0x001F0061) = 0x00000003#32 := by decide +kernel

/-- The keys of V-TDES. -/
def tdesStart (block : DesBlock) : State :=
  { State.reset with
    desBlock := block, desKey := #v[0x0123456789abcdef#64, 0x23456789abcdef01#64, 0x456789abcdef0123#64] }

theorem test_tdesEnc :
    (command (tdesStart 0x5468652071756663#64) 0x2070).desBlock = 0xa826fd8ce53b855f#64 ∧
    statusWord (command (tdesStart 0x5468652071756663#64) 0x2070) = 0x00109000#32 := by decide +kernel

/-- The schedule left in DES_SK is that of the last pass, here k1's. -/
theorem test_tdesEnc_schedule :
    subkey (command (tdesStart 0x5468652071756663#64) 0x70).desSk 15 = 0xca3d03b87032#48 := by decide +kernel

theorem test_tdesDec :
    (command (tdesStart 0xc44862f70cf2fbdc#64) 0x71).desBlock = 0x5468652071756663#64 := by decide +kernel

theorem test_tdesDec_schedule :
    subkey (command (tdesStart 0#64) 0x2071).desSk 15 = 0x0b02679b49a5#48 ∧
    statusWord (command (tdesStart 0#64) 0x2071) = 0x00103000#32 := by decide +kernel

/-! ## NOP, illegal words and the port -/

/-- V-CTRL. -/
theorem test_nop :
    statusWord (command { State.reset with desKsv := true, desKsdir := .dec, desNsk := 16#5, err := 4#4 } 0) =
      0x00103000#32 := by decide +kernel

/-- V-ERR, and R31: CMD_LAST holds an illegal word too. -/
theorem test_illegal_word :
    statusWord (command State.reset 0xFF) = 0x00000004#32 ∧ (command State.reset 0xFF).cmdLast = 0xFF#32 := by
  decide +kernel

/-- V-BUS: reserved offsets, read-only registers, ID. -/
theorem test_window_reads :
    [0x00C#10, 0x038#10, 0x03C#10, 0x058#10, 0x0FC#10, 0x1B0#10, 0x1FC#10, 0x280#10, 0x3FC#10].map
      (fun off => hostRead off State.reset) = List.replicate 9 0#32 ∧ hostRead 0x000#10 State.reset = 0x43525950#32 := by
  decide +kernel

/-- V-AES-ORDER: word 2 of AES_STATE, and the halves of DES_BLOCK and of a subkey. -/
theorem test_window_order :
    hostRead 0x018#10 (aesStart 0x00112233445566778899aabbccddeeff#128 0#128) = 0x8899AABB#32 ∧
    hostRead 0x030#10 (desStart 0x0123456789abcdef#64 0#64) = 0x01234567#32 ∧
    hostRead 0x200#10 { State.reset with desSk := Vector.replicate 16 0x1b02effc7072#48 } = 0x00001B02#32 ∧
    hostRead 0x204#10 { State.reset with desSk := Vector.replicate 16 0x1b02effc7072#48 } = 0xEFFC7072#32 := by
  decide +kernel

/-- P6: writing a key word with the value it holds clears AES_KSV. -/
theorem test_key_write :
    (after (hostWrite 0x02C#10 0x0C0D0E0F#32
      { aesStart 0#128 0x000102030405060708090a0b0c0d0e0f#128 with aesKsv := true })).aesKsv = false ∧
    (after (hostWrite 0x02C#10 0x0C0D0E0F#32
      { aesStart 0#128 0x000102030405060708090a0b0c0d0e0f#128 with aesKsv := true })).aesKey =
      0x000102030405060708090a0b0c0d0e0f#128 := by decide +kernel

/-- V-BUS: a misaligned read and a narrow write to CMD are bus errors and run nothing. -/
theorem test_bus_error :
    after (step { State.reset with pending := [.access ⟨false, 0x001#10, 2#2, 0#32⟩] }) =
      { State.reset with responses := [.busError], busFault := true } ∧
    after (step { State.reset with pending := [.access ⟨true, 0x004#10, 0#2, 0xFF#32⟩] }) =
      { State.reset with responses := [.busError], busFault := true } := by decide +kernel

/-- 70_reset_and_hazards.md R340. -/
theorem test_reset_event :
    after (step { tdesStart 5#64 with pending := [.reset], err := 4#4 }) = State.reset := by decide +kernel

/-- 30_encoding.md R91 to R93: an assembled line, its spelling, and a host line's transactions. -/
theorem test_assembler :
    assembleLine (.aesRound 2) = some [0x10#32, 0x12#32, 0x14#32, 0x216#32] ∧
    assembleLine (.op (.desKeyexp 0 .dec none)) = some [0x00101050#32] ∧ assembleLine (.desRounds 17) = none ∧
    hostEvents (.loadDesKey 1 0x133457799bbcdff1#64) =
      some [writeEvent 0x048#10 0x13345779#32, writeEvent 0x04C#10 0x9BBCDFF1#32] := by decide +kernel

theorem test_spelling :
    asmText (.desKeyexp 1 .enc (some 2)) = "des.keyexp k2, enc, 2" ∧ asmText (.raw 0xB16#32) = "cmd.raw 0x00000b16" ∧
    regText (.aesRk 10 3) = some "AES_RK10_3" := by decide +kernel

/-! ## Witnesses: concrete states and operands that meet the statements' hypotheses -/

/-- DecodeOfEncodeIsTheCommand, at the boundary of each field check. -/
theorem witness_wellFormed :
    (Instr.aesArk 10#4).wellFormed = true ∧ (Instr.desKeyexp .dec 2#2 31#5).wellFormed = true := by decide

/-- EncodeOfDecodeIsTheWord, ChecksAreMadeInOrder, FailureSetsOnlyErrAndSuccessClearsIt: words that decode, one of which
fails its run-time check and one of which passes it, and one that does not decode. -/
theorem witness_decoded_words :
    decode 0x00110061#32 = .ok (.desDec 0#2 17#5) ∧ wordCheck 0x00110061#32 State.reset = .invalidRoundCount ∧
    decode 0x00100061#32 = .ok (.desDec 0#2 16#5) ∧ wordCheck 0x00100061#32 State.reset = .ok ∧
    wordCheck 0xFF#32 State.reset = .illegalCommand := by decide

/-- StepRunsTheDecodedCommand, FailureSetsOnlyErrAndSuccessClearsIt and ErrReportsTheLatestCommand: a command the host
offers that decodes and fails its check. -/
theorem witness_offered_failing_command :
    (State.reset.withFetchWord 32 0x43).pending = commandEvent 0x43#32 :: [] ∧ decode 0x43#32 = .ok (.desRound 0#4) ∧
    wordCheck 0x43#32 (State.reset.withFetchWord 32 0x43) = .noKeySchedule := by decide

/-- ChecksAreMadeInOrder and IllegalWordsAreExactlyTheListedOnes: a word for each way to be illegal. -/
theorem witness_illegal_words :
    (∃ e, decode 0x02#32 = .illegal e) ∧ 0x80000010#32 &&& mustBeZero (opcOf 0x80000010#32) ≠ 0#32 ∧
    (opcOf 0xB16#32 = 0x16#8 ∧ 11 ≤ (idxOf 0xB16#32).toNat) ∧
    (opcOf 0xC061#32 ∈ [0x50#8, 0x60#8, 0x61#8] ∧ kselOf 0xC061#32 = 3#2) := by
  exact ⟨⟨.noRow, by decide⟩, by decide, by decide, by decide⟩

/-- NopOnlyClearsErr, AesSubSubstitutesEveryByte, AesKeyexpWritesTheSchedule: words of the opcode with another bit set, and
an error to clear. -/
theorem witness_mbz_words :
    (opcOf 0x100#32 = 0x00#8 ∧ 0x100#32 ≠ 0#32) ∧ (opcOf 0x110#32 = 0x10#8 ∧ 0x110#32 ≠ 0x10#32) ∧
    (opcOf 0x2020#32 = 0x20#8 ∧ 0x2020#32 ≠ 0x20#32 ∧ 0x2020#32 ≠ 0x1020#32) ∧
    (command State.reset 0xFF).err = 0x4#4 := by decide +kernel

/-- The column and row hypotheses of the AES statements: a block of equal bytes. -/
theorem witness_constant_block :
    (∀ c < 4, ∀ r < 4, byteAt 0xc6c6c6c6c6c6c6c6c6c6c6c6c6c6c6c6#128 (4 * c + r) =
      byteAt 0xc6c6c6c6c6c6c6c6c6c6c6c6c6c6c6c6#128 r) ∧
    (∀ r < 4, byteAt 0x01020304c6c6c6c6#128 (12 + r) = byteAt 0x01020304c6c6c6c6#128 12) := by decide +kernel

/-- AesArkAddsTheIndexedRoundKey: the last index, with a schedule and without; the first illegal index; a forward
schedule of the key. -/
theorem witness_ark :
    ((10#4).toNat ≤ 10 ∧ (command State.reset 0x20).aesKsv = true) ∧ State.reset.aesKsv = false ∧
    11 ≤ (11#4).toNat ∧ (command State.reset 0x20).aesRk = keyExpFwd (command State.reset 0x20).aesKey := by
  decide +kernel

/-- DesRoundRunsOneFeistelRound: the last index below DES_NSK, the first that is not, and no schedule. -/
theorem witness_des_round :
    ((command State.reset 0x00020050).desKsv = true ∧ (1#4).toNat < (command State.reset 0x00020050).desNsk.toNat) ∧
    (command State.reset 0x00020050).desNsk.toNat ≤ (2#4).toNat ∧ State.reset.desKsv = false := by decide +kernel

/-- The operands of DES_KEYEXP, DES_ENC and DES_DEC, at both ends of NR, and the round counts that fail. -/
theorem witness_key_and_rounds :
    (2#2 ≠ 3#2 ∧ 1 ≤ (1#5).toNat ∧ (1#5).toNat ≤ 16) ∧ (0#2 ≠ 3#2 ∧ 1 ≤ (16#5).toNat ∧ (16#5).toNat ≤ 16) ∧
    (17#5 = 0#5 ∨ 16 < (17#5).toNat) := by decide

/-- DesKeyexpWritesTheSchedule: a state with the AES flags clear whose `des.keyexp k1, enc, 2` answers a next state. -/
theorem witness_des_keyexp_status :
    State.reset.aesKsv = false ∧ State.reset.aesKsdir = .enc ∧
    ∃ t, exec (.desKeyexp .enc 0#2 2#5) State.reset = .next t :=
  ⟨rfl, rfl, _, rfl⟩

/-- TdesEncEncryptsTheBlock: three equal keys for the three-key form, and two of three for the two-key form. -/
theorem witness_tdes_equal_keys :
    (State.reset.desKey[0] = State.reset.desKey[1] ∧ State.reset.desKey[1] = State.reset.desKey[2] ∧
      (∃ t, exec (.tdesEnc .three) State.reset = .next t) ∧ ∃ u, exec (.desEnc 0#2 16#5) State.reset = .next u) ∧
    (∃ s : State, s.desKey[0] = s.desKey[1] ∧ s.desKey[1] ≠ s.desKey[2] ∧
      ∃ t, exec (.tdesEnc .two) s = .next t) :=
  ⟨⟨by decide, by decide, ⟨_, rfl⟩, ⟨_, rfl⟩⟩,
    ⟨{ State.reset with desKey := #v[1#64, 1#64, 2#64] }, by decide, by decide, ⟨_, rfl⟩⟩⟩

/-- DesSwapExchangesTheHalves: a block with equal halves. -/
theorem witness_equal_halves :
    (0x0123456701234567#64).extractLsb' 32 32 = (0x0123456701234567#64).extractLsb' 0 32 := by decide

/-- PermuteTakesTheTablePositions: PC2's length and bounds. -/
theorem witness_table : pc2Table.length = 48 ∧ ∀ p, p ∈ pc2Table → p < 56 := by decide

/-- SLayerLooksUpEachGroup: the last box at its last row. -/
theorem witness_box :
    7 < 8 ∧ 3 = 2 * ((0b100001#6).getLsbD 5).toNat + ((0b100001#6).getLsbD 0).toNat ∧
    0 = ((0b100001#6).extractLsb' 1 4).toNat := by decide

/-- DesScheduleProperties: a mask of the parity positions. -/
theorem witness_parity_mask :
    ∀ p < 64, p ∉ [7, 15, 23, 31, 39, 47, 55, 63] → (0x0101010101010101#64).getMsbD p = false := by decide +kernel

/-- AWriteChangesOnlyItsWord and ReservedAndReadOnlyIgnoreWrites: offsets at the ends of their ranges, a key word's write
seen elsewhere and the writes next to the key words seen in STATUS among them. -/
theorem witness_offsets :
    ((0x02C#10).toNat % 4 = 0 ∧ 0x02C#10 ≠ 0x030#10 ∧ 0x02C#10 ≠ 0x004#10 ∧ 0x030#10 ≠ 0x008#10) ∧
    ((0x01C#10).toNat % 4 = 0 ∧ 0x01C#10 ≠ 0x008#10 ∧ 0x01C#10 ≠ 0x004#10 ∧
      ¬(0x020 ≤ (0x01C#10).toNat ∧ (0x01C#10).toNat < 0x030 ∨ 0x040 ≤ (0x01C#10).toNat ∧ (0x01C#10).toNat < 0x058)) ∧
    ¬(0x020 ≤ (0x030#10).toNat ∧ (0x030#10).toNat < 0x030 ∨ 0x040 ≤ (0x030#10).toNat ∧ (0x030#10).toNat < 0x058) ∧
    (0x010 ≤ (0x034#10).toNat ∧ (0x034#10).toNat < 0x038) ∧ (0x040 ≤ (0x054#10).toNat ∧ (0x054#10).toNat < 0x058) ∧
    (0x058 ≤ (0x0FC#10).toNat ∧ (0x0FC#10).toNat < 0x100) ∧ (0x1B0 ≤ (0x1FC#10).toNat ∧ (0x1FC#10).toNat < 0x200) ∧
    0x280 ≤ (0x280#10).toNat ∧ (0x100 ≤ (0x1AC#10).toNat ∧ (0x1AC#10).toNat < 0x1B0) ∧
    (0x200 ≤ (0x27C#10).toNat ∧ (0x27C#10).toNat < 0x280) := by decide

/-- StatusFieldsAreAtTheirPlaces and the three step invariants: a state other than reset that meets them, reached by a
command. -/
theorem witness_invariants :
    AesScheduleInv (command (aesStart 0#128 7#128) 0x1020) ∧ DesScheduleInv (command (desStart 0#64 9#64) 0x00021050) ∧
    ErrCodeInv (command State.reset 0x43) := by decide +kernel

/-- The statements about a step: one event of each kind at the head of `pending`, and none. -/
theorem witness_events :
    (∃ t, step { State.reset with pending := [.access ⟨true, 0x010#10, 2#2, 5#32⟩] } = .next t) ∧
    (∃ t, step { State.reset with pending := [readEvent 0x004#10] } = .next t) ∧
    (∃ t, step { State.reset with pending := [.access ⟨false, 0x002#10, 2#2, 0#32⟩] } = .next t ∧ t.busFault = true) ∧
    (∃ t, step { State.reset with pending := [.reset] } = .next t) ∧ State.reset.pending = [] ∧
    (∃ t, step { State.reset with busFault := true } = .next t) :=
  ⟨⟨_, rfl⟩, ⟨_, rfl⟩, ⟨_, rfl, rfl⟩, ⟨_, rfl⟩, rfl, ⟨_, rfl⟩⟩

/-- KeyWritesClearTheValidFlag: a key word write that answers a next state, of each cipher. -/
theorem witness_key_writes :
    (∃ t, hostWrite (BitVec.ofNat 10 (0x020 + 4 * 3)) 1#32 State.reset = .next t) ∧
    (∃ t, hostWrite (BitVec.ofNat 10 (0x044 + 8 * 2)) 1#32 State.reset = .next t) :=
  ⟨⟨_, rfl⟩, ⟨_, rfl⟩⟩

end Sys2Proof.Tests
end

section
/-! SUPPORT. What a step answers, one equation per kind of event (20_memory.md R62 to R69, 70_reset_and_hazards.md R340), and
the two statements of 00_scope.md R9 that follow from them. -/

namespace Sys2Proof.Machine

/-! ## The steps by event -/

theorem legalTransaction_eq_true {tr : Transaction} :
    legalTransaction tr = true ↔ tr.size = 2#2 ∧ tr.addr.toNat % 4 = 0 := by
  simp [legalTransaction]

theorem legalTransaction_eq_false {tr : Transaction} :
    legalTransaction tr = false ↔ tr.size ≠ 2#2 ∨ tr.addr.toNat % 4 ≠ 0 := by
  rw [← Bool.not_eq_true, legalTransaction_eq_true, Decidable.not_and_iff_not_or_not]

/-- What a register reads does not depend on the host's own fields. -/
@[simp] theorem hostRead_hostFields (off : BitVec 10) (s : State) (events : List HostEvent) (rs : List Response)
    (fault : Bool) :
    hostRead off { s with pending := events, responses := rs, busFault := fault } = hostRead off s := by
  unfold hostRead
  cases regAt off.toNat <;> rfl

section
variable {s : State} {tr : Transaction} {rest : List HostEvent}

/-- A reset is performed on the registers alone (70_reset_and_hazards.md R340). -/
theorem step_reset (hp : s.pending = .reset :: rest) :
    step s = .next { State.reset with pending := rest, responses := s.responses, busFault := s.busFault } := by
  rw [step_event hp]
  rfl

/-- A transaction the core does not define is answered with an error alone (20_memory.md R63). -/
theorem step_illegal (hp : s.pending = .access tr :: rest) (hl : legalTransaction tr = false) :
    step s = .next { s with pending := rest, responses := .busError :: s.responses, busFault := true } := by
  rw [step_event hp]
  exact performTransaction_illegal _ hl

/-- A read changes no register and is answered with the word at its offset (20_memory.md R67). -/
theorem step_read (hp : s.pending = .access tr :: rest) (hl : legalTransaction tr = true) (hw : tr.write = false) :
    step s = .next { s with pending := rest, responses := .data (hostRead tr.addr s) :: s.responses } := by
  calc step s = .next (respond (.data (hostRead tr.addr { s with pending := rest })) { s with pending := rest }) := by
        rw [step_event hp]
        exact performTransaction_read _ hl hw
    _ = _ := by rw [hostRead_hostFields]; rfl

/-- A write leaves what `hostWrite` leaves, which touches none of the host's fields, and is then answered
(20_memory.md R66, R68). -/
theorem step_write (hp : s.pending = .access tr :: rest) (hl : legalTransaction tr = true) (hw : tr.write = true) :
    ∃ u, hostWrite tr.addr tr.wdata { s with pending := rest } = .next u ∧
      u.pending = rest ∧ u.responses = s.responses ∧ u.busFault = s.busFault ∧
      step s = .next { u with responses := .done :: s.responses } := by
  obtain ⟨u, hu, hpend, hresp, hfault⟩ := hostWrite_next tr.addr tr.wdata { s with pending := rest }
  refine ⟨u, hu, hpend, hresp, hfault, ?_⟩
  calc step s = respondAfter (hostWrite tr.addr tr.wdata { s with pending := rest }) := by
        rw [step_event hp]
        exact performTransaction_write _ hl hw
    _ = .next (respond .done u) := by rw [hu]; rfl
    _ = _ := by rw [respond, hresp]

/-- Every transaction, of whatever kind, is taken from the list and gets one response. -/
theorem step_access (hp : s.pending = .access tr :: rest) :
    ∃ t r, step s = .next t ∧ t.pending = rest ∧ t.responses = r :: s.responses := by
  cases hl : legalTransaction tr with
  | false => exact ⟨_, _, step_illegal hp hl, rfl, rfl⟩
  | true =>
    cases hw : tr.write with
    | false => exact ⟨_, _, step_read hp hl hw, rfl, rfl⟩
    | true =>
      obtain ⟨u, _, hpend, _, _, hstep⟩ := step_write hp hl hw
      exact ⟨_, _, hstep, hpend, rfl⟩

end

/-! ## The statements -/

/-- Settles O10: with no event, at a reset and at a transaction, the step's own equation names the next state. -/
theorem everyStepAnswersANextState : Obligations.EveryStepAnswersANextState := by
  intro s
  match hp : s.pending with
  | [] => exact ⟨s, step_idle hp⟩
  | .reset :: rest => exact ⟨_, step_reset hp⟩
  | .access tr :: rest =>
    obtain ⟨t, _, hstep, _, _⟩ := step_access hp
    exact ⟨t, hstep⟩

/-- An offered event is taken from the list; a transaction gets one response. -/
theorem step_takes_oldest_event {s t : State} {e : HostEvent} {rest : List HostEvent} (hp : s.pending = e :: rest)
    (hstep : step s = .next t) :
    t.pending = rest ∧ ∀ tr, e = .access tr → ∃ r, t.responses = r :: s.responses := by
  cases e with
  | reset =>
    cases (step_reset hp).symm.trans hstep
    exact ⟨rfl, by simp⟩
  | access tr =>
    obtain ⟨t', r, hstep', hpend, hresp⟩ := step_access hp
    cases hstep'.symm.trans hstep
    exact ⟨hpend, fun _ _ => ⟨r, hresp⟩⟩

/-- Settles O53: one clause per kind of event, each from that event's step equation. -/
theorem eventsArePerformedOneAtATime : Obligations.EventsArePerformedOneAtATime := by
  refine ⟨?taken, ?write, ?read, ?illegal, fun _ _ hp => step_reset hp, fun _ hp => step_idle hp⟩
  case taken =>
    intro s t e rest hp hstep
    obtain ⟨hpend, hresp⟩ := step_takes_oldest_event hp hstep
    refine ⟨hpend, hresp, ?_⟩
    rintro tr rfl hsize haddr hw
    obtain ⟨u, _, _, _, _, hstep'⟩ := step_write hp (legalTransaction_eq_true.mpr ⟨hsize, haddr⟩) hw
    cases hstep'.symm.trans hstep
    rfl
  case write =>
    intro s tr rest hp hw hsize haddr
    obtain ⟨u, hu, _, _, _, hstep⟩ := step_write hp (legalTransaction_eq_true.mpr ⟨hsize, haddr⟩) hw
    exact ⟨u, hu, hstep⟩
  case read =>
    intro s tr rest hp hw hsize haddr
    exact step_read hp (legalTransaction_eq_true.mpr ⟨hsize, haddr⟩) hw
  case illegal =>
    intro s tr rest hp hbad
    exact step_illegal hp (legalTransaction_eq_false.mpr hbad)

end Sys2Proof.Machine
end

section
/-! SUPPORT. What one command word answers, which fields a command's semantics can touch, and how an invariant of the
registers is carried through a step (30_encoding.md R88, 70_reset_and_hazards.md R346). -/

namespace Sys2Proof.Machine

/-! ## A command word -/

/-- The checks read neither CMD_LAST nor the host's fields. -/
theorem commandCheck_writeCmd (i : Instr) (w : Word) (s : State) :
    commandCheck i (writeReg .cmd w s) = commandCheck i s := by
  cases i <;> rfl

/-- A word whose check fails writes CMD_LAST and raises the check's code; one that passes runs its command's semantics
(60_exceptions.md R301 to R303). -/
theorem runCommandWord_checked (w : Word) (s : State) :
    (wordCheck w s ≠ .ok ∧ runCommandWord w s = .next (raise (wordCheck w s) (writeReg .cmd w s))) ∨
    (wordCheck w s = .ok ∧ ∃ i, decode w = .ok i ∧ commandCheck i s = .ok ∧
      runCommandWord w s = .next (succeed (semantics i (writeReg .cmd w s)))) := by
  unfold wordCheck
  cases hd : decode w with
  | illegal e => exact .inl ⟨by simp, runCommandWord_illegal s hd⟩
  | ok i =>
    rw [runCommandWord_ok s hd]
    rcases exec_cases i (writeReg .cmd w s) with ⟨hc, he⟩ | ⟨hc, he⟩ <;> rw [commandCheck_writeCmd] at hc
    · exact .inr ⟨hc, i, rfl, hc, he⟩
    · exact .inl ⟨hc, by rw [he, commandCheck_writeCmd]⟩

/-- After a command word ERR is the code of the word's checks. -/
theorem runCommandWord_err {w : Word} {s t : State} (h : runCommandWord w s = .next t) :
    t.err = errValue (wordCheck w s) := by
  rcases runCommandWord_checked w s with ⟨_, he⟩ | ⟨hc, i, _, _, he⟩ <;> cases he.symm.trans h
  · rfl
  · rw [hc]; rfl

/-- A command whose check gives an error code only raises it (60_exceptions.md R301). -/
theorem exec_of_check_eq {i : Instr} {s : State} {code : ErrCode} (hc : commandCheck i s = code) (hne : code ≠ .ok) :
    exec i s = .next (raise code s) := by
  subst hc
  rw [exec_eq, runChecked_of_error _ hne]

/-! ## The fields a command's semantics leaves alone -/

/-- The AES schedule and its flags in `t` are those in `s` (10_state.md R23, R24). -/
def SameAesSchedule (s t : State) : Prop :=
  t.aesRk = s.aesRk ∧ t.aesKsv = s.aesKsv ∧ t.aesKsdir = s.aesKsdir

/-- The DES schedule and its four fields in `t` are those in `s` (10_state.md R27, R28). -/
def SameDesSchedule (s t : State) : Prop :=
  t.desSk = s.desSk ∧ t.desKsv = s.desKsv ∧ t.desKsdir = s.desKsdir ∧ t.desKsel = s.desKsel ∧ t.desNsk = s.desNsk

/-- AES_KEYEXP, AES_ENC and AES_DEC, the commands that write AES_RK (10_state.md R23). -/
abbrev aesScheduleOpcodes : List (BitVec 8) := [0x20#8, 0x30#8, 0x31#8]

/-- DES_KEYEXP, DES_ENC, DES_DEC, TDES_ENC and TDES_DEC, the commands that write DES_SK (10_state.md R27). -/
abbrev desScheduleOpcodes : List (BitVec 8) := [0x50#8, 0x60#8, 0x61#8, 0x70#8, 0x71#8]

section
variable (i : Instr) (s : State)

/-- No command writes a key (10_state.md R22, R26). -/
theorem semantics_keys : (semantics i s).aesKey = s.aesKey ∧ (semantics i s).desKey = s.desKey := by
  cases i <;> simp [semantics]

/-- No command writes CMD_LAST or what is the host's (10_state.md R31). -/
theorem semantics_host :
    (semantics i s).cmdLast = s.cmdLast ∧ (semantics i s).pending = s.pending ∧
    (semantics i s).responses = s.responses ∧ (semantics i s).busFault = s.busFault := by
  cases i <;> simp [semantics]

variable {i}

/-- Every other command leaves AES_RK and its flags (10_state.md R23, R24). -/
theorem semantics_sameAesSchedule (h : opcode i ∉ aesScheduleOpcodes) : SameAesSchedule s (semantics i s) := by
  revert h
  cases i <;> simp [opcode, semantics, aesScheduleOpcodes, SameAesSchedule]

/-- They leave the schedule that AES_KEYEXP writes (41_aes_keysched.md R149). -/
theorem semantics_writesAesSchedule (h : opcode i ∈ aesScheduleOpcodes) :
    ∃ dir, SameAesSchedule (writeAesSchedule dir s) (semantics i s) := by
  cases i with
  | aesKeyexp dir => exact ⟨dir, rfl, rfl, rfl⟩
  | aesEnc => exact ⟨.enc, rfl, rfl, rfl⟩
  | aesDec => exact ⟨.dec, rfl, rfl, rfl⟩
  | _ => simp [opcode, aesScheduleOpcodes] at h

/-- Every other command leaves DES_SK and its fields (10_state.md R27, R28). -/
theorem semantics_sameDesSchedule (h : opcode i ∉ desScheduleOpcodes) :
    SameDesSchedule s (semantics i s) := by
  revert h
  cases i <;> simp [opcode, semantics, desScheduleOpcodes, SameDesSchedule]

/-- They leave the schedule of a legal key and round count (44_des_keysched.md R226, 60_exceptions.md R303). -/
theorem semantics_writesDesSchedule (h : opcode i ∈ desScheduleOpcodes)
    (hc : commandCheck i s = .ok) :
    ∃ ksel nr dir, keyAndRoundCheck ksel nr = .ok ∧
      SameDesSchedule (writeDesSchedule ksel nr dir s) (semantics i s) := by
  cases i with
  | desKeyexp dir ksel nr => exact ⟨ksel, nr, dir, hc, rfl, rfl, rfl, rfl, rfl⟩
  | desEnc ksel nr => exact ⟨ksel, nr, .enc, hc, rfl, rfl, rfl, rfl, rfl⟩
  | desDec ksel nr => exact ⟨ksel, nr, .dec, hc, rfl, rfl, rfl, rfl, rfl⟩
  | tdesEnc keys => exact ⟨k3sel keys, 16#5, .enc, by cases keys <;> decide, rfl, rfl, rfl, rfl, rfl⟩
  | tdesDec keys => exact ⟨0#2, 16#5, .dec, by decide, rfl, rfl, rfl, rfl, rfl⟩
  | _ => simp [opcode, desScheduleOpcodes] at h

/-- NOP and the AES commands leave DES_BLOCK alone (10_state.md R25). -/
theorem semantics_desBlock (h : (opcode i).toNat < 0x40) : (semantics i s).desBlock = s.desBlock := by
  revert h
  cases i <;> simp [opcode, semantics]

/-- The DES and triple-DES commands leave AES_STATE alone (10_state.md R21). -/
theorem semantics_aesState (h : 0x40 ≤ (opcode i).toNat) : (semantics i s).aesState = s.aesState := by
  revert h
  cases i <;> simp [opcode, semantics]

end

/-- The control and AES opcodes are below 0x40, those of the DES schedule commands are not (30_encoding.md R87). -/
theorem not_mem_desScheduleOpcodes :
    ∀ op : BitVec 8, op.toNat < 0x40 → op ∉ desScheduleOpcodes := by
  decide

/-- The DES opcodes start at 0x40, above those of the AES schedule commands (30_encoding.md R87). -/
theorem not_mem_aesScheduleOpcodes : ∀ op : BitVec 8, 0x40 ≤ op.toNat → op ∉ aesScheduleOpcodes := by
  decide

/-- Settles O60: a failing command raises its code alone, and a succeeding one writes what its semantics writes. -/
theorem commandsWriteOnlyTheirRegisters : Obligations.CommandsWriteOnlyTheirRegisters := by
  intro i s t h
  rcases exec_next h with ⟨_, rfl⟩ | ⟨_, rfl⟩
  · exact ⟨semantics_keys i s, semantics_host i s,
      fun hop => ⟨semantics_desBlock s hop, semantics_sameDesSchedule s (not_mem_desScheduleOpcodes _ hop)⟩,
      fun hop => ⟨semantics_aesState s hop, semantics_sameAesSchedule s (not_mem_aesScheduleOpcodes _ hop)⟩,
      semantics_sameAesSchedule s, semantics_sameDesSchedule s⟩
  · exact ⟨⟨rfl, rfl⟩, ⟨rfl, rfl, rfl, rfl⟩, fun _ => ⟨rfl, rfl, rfl, rfl, rfl, rfl⟩,
      fun _ => ⟨rfl, rfl, rfl, rfl⟩, fun _ => ⟨rfl, rfl, rfl⟩, fun _ => ⟨rfl, rfl, rfl, rfl, rfl⟩⟩

/-! ## Invariants -/

/-- A predicate of the registers that holds at reset and is kept by a write to any register, by the code of a failing word
and by every command that passes its checks. -/
structure RegisterInvariant (P : State → Prop) : Prop where
  /-- It does not read the host's fields. -/
  host : ∀ s events rs fault, P s → P { s with pending := events, responses := rs, busFault := fault }
  reset : P State.reset
  write : ∀ r v s, P s → P (writeReg r v s)
  fail : ∀ w s, wordCheck w s ≠ .ok → P s → P (raise (wordCheck w s) s)
  command : ∀ i s, commandCheck i s = .ok → P s → P (succeed (semantics i s))

namespace RegisterInvariant

variable {P : State → Prop} {s t : State}

theorem runCommandWord (inv : RegisterInvariant P) {w : Word} (hs : P s)
    (h : Machine.runCommandWord w s = .next t) : P t := by
  have hs' : P (writeReg .cmd w s) := inv.write .cmd w s hs
  rcases runCommandWord_checked w s with ⟨hc, he⟩ | ⟨_, i, _, hc, he⟩ <;> cases he.symm.trans h
  · exact inv.fail w _ hc hs'
  · exact inv.command i _ ((commandCheck_writeCmd i w s).trans hc) hs'

theorem hostWrite (inv : RegisterInvariant P) {off : BitVec 10} {v : Word} (hs : P s)
    (h : Machine.hostWrite off v s = .next t) : P t := by
  by_cases hr : regAt off.toNat = .cmd
  · exact inv.runCommandWord hs (by simpa [Machine.hostWrite, hr] using h)
  · cases (hostWrite_other v s hr).symm.trans h
    exact inv.write _ v s hs

/-- Every step keeps it, whatever event the host offers. -/
theorem step (inv : RegisterInvariant P) (hs : P s) (h : Machine.step s = .next t) : P t := by
  match hp : s.pending with
  | [] =>
    cases (step_idle hp).symm.trans h
    exact hs
  | .reset :: rest =>
    cases (step_reset hp).symm.trans h
    exact inv.host _ _ _ _ inv.reset
  | .access tr :: rest =>
    cases hl : legalTransaction tr with
    | false =>
      cases (step_illegal hp hl).symm.trans h
      exact inv.host s _ _ _ hs
    | true =>
      cases hw : tr.write with
      | false =>
        cases (step_read hp hl hw).symm.trans h
        exact inv.host s _ _ _ hs
      | true =>
        obtain ⟨u, hu, _, _, _, hstep⟩ := step_write hp hl hw
        cases hstep.symm.trans h
        have hs' : P { s with pending := rest } := inv.host s _ _ _ hs
        exact inv.host u _ _ _ (inv.hostWrite hs' hu)

end RegisterInvariant

/-! ## The AES schedule (10_state.md R42) -/

/-- The AES invariant speaks of AES_KEY, AES_RK and the two flags only. -/
theorem aesScheduleInv_congr {s t : State} (hsame : SameAesSchedule s t) (hkey : t.aesKey = s.aesKey)
    (h : AesScheduleInv s) : AesScheduleInv t := by
  obtain ⟨hrk, hksv, hdir⟩ := hsame
  intro hv k hk
  rw [hrk, hkey, hdir]
  exact h (hksv ▸ hv) k hk

theorem aesScheduleInv_writeAesSchedule (dir : Dir) (s : State) : AesScheduleInv (writeAesSchedule dir s) :=
  fun _ _ _ => rfl

theorem aesScheduleInv_writeReg (r : Reg) (v : Word) (s : State) (h : AesScheduleInv s) :
    AesScheduleInv (writeReg r v s) := by
  cases r with
  | aesKey j => exact fun hv => absurd hv Bool.false_ne_true
  | _ => exact h

theorem aesScheduleInv_semantics (i : Instr) (s : State) (h : AesScheduleInv s) : AesScheduleInv (semantics i s) := by
  obtain ⟨hkey, _⟩ := semantics_keys i s
  by_cases hop : opcode i ∈ aesScheduleOpcodes
  · obtain ⟨dir, hsame⟩ := semantics_writesAesSchedule s hop
    exact aesScheduleInv_congr hsame hkey (aesScheduleInv_writeAesSchedule dir s)
  · exact aesScheduleInv_congr (semantics_sameAesSchedule s hop) hkey h

theorem registerInvariant_aesSchedule : RegisterInvariant AesScheduleInv where
  host _ _ _ _ h := h
  reset := fun hv => absurd hv Bool.false_ne_true
  write := aesScheduleInv_writeReg
  fail _ _ _ h := h
  command i s _ h := aesScheduleInv_semantics i s h

/-- Settles O57: a key write clears AES_KSV, and the only commands that write AES_RK write the schedule of AES_KEY. -/
theorem everyStepKeepsTheAesSchedule : Obligations.EveryStepKeepsTheAesSchedule :=
  fun _ _ => registerInvariant_aesSchedule.step

/-! ## The DES schedule (10_state.md R43) -/

/-- The DES invariant speaks of the DES keys, DES_SK and its four fields only. -/
theorem desScheduleInv_congr {s t : State} (hsame : SameDesSchedule s t) (hkey : t.desKey = s.desKey)
    (h : DesScheduleInv s) : DesScheduleInv t := by
  obtain ⟨hsk, hksv, hdir, hksel, hnsk⟩ := hsame
  unfold DesScheduleInv
  rw [hsk, hksv, hdir, hksel, hnsk, hkey]
  exact h

/-- A schedule of a legal key and round count: its entries, and 0 in the entries past its end (44_des_keysched.md R226). -/
theorem desScheduleInv_writeDesSchedule {ksel : BitVec 2} {nr : BitVec 5} (dir : Dir) (s : State)
    (hc : keyAndRoundCheck ksel nr = .ok) : DesScheduleInv (writeDesSchedule ksel nr dir s) := by
  obtain ⟨hksel, hlo, hhi⟩ := (keyAndRoundCheck_eq_ok ksel nr).mp hc
  refine ⟨hksel, hhi, fun k hk hnr => ?_, fun _ => ⟨hlo, fun k hk => ?_⟩⟩
  · rw [subkey_writeDesSchedule ksel nr dir s k hk]
    rw [List.getD_eq_getElem?_getD, List.getElem?_eq_none (by rwa [length_keySchedule]), Option.getD_none]
  · exact subkey_writeDesSchedule ksel nr dir s k (Nat.lt_of_lt_of_le hk hhi)

/-- A key write clears DES_KSV, so only the ranges and the unused entries are left to hold, and it touches neither. -/
theorem desScheduleInv_writeReg (r : Reg) (v : Word) (s : State) (h : DesScheduleInv s) :
    DesScheduleInv (writeReg r v s) := by
  have ⟨hksel, hnsk, hzero, _⟩ := h
  cases r with
  | desKeyHi n => exact ⟨hksel, hnsk, hzero, fun hv => absurd hv Bool.false_ne_true⟩
  | desKeyLo n => exact ⟨hksel, hnsk, hzero, fun hv => absurd hv Bool.false_ne_true⟩
  | _ => exact h

theorem desScheduleInv_semantics (i : Instr) (s : State) (hc : commandCheck i s = .ok) (h : DesScheduleInv s) :
    DesScheduleInv (semantics i s) := by
  obtain ⟨_, hkey⟩ := semantics_keys i s
  by_cases hop : opcode i ∈ desScheduleOpcodes
  · obtain ⟨ksel, nr, dir, hlegal, hsame⟩ := semantics_writesDesSchedule s hop hc
    exact desScheduleInv_congr hsame hkey (desScheduleInv_writeDesSchedule dir s hlegal)
  · exact desScheduleInv_congr (semantics_sameDesSchedule s hop) hkey h

/-- At reset DES_KSV is 0 and every entry of DES_SK is 0 (10_state.md R41). -/
theorem desScheduleInv_reset : DesScheduleInv State.reset :=
  ⟨by decide, by decide, fun k hk _ => by simp [subkey, State.reset, hk], fun hv => absurd hv Bool.false_ne_true⟩

theorem registerInvariant_desSchedule : RegisterInvariant DesScheduleInv where
  host _ _ _ _ h := h
  reset := desScheduleInv_reset
  write := desScheduleInv_writeReg
  fail _ _ _ h := h
  command := desScheduleInv_semantics

/-- Settles O58: a key write clears DES_KSV, and the only commands that write DES_SK write a legal key's schedule. -/
theorem everyStepKeepsTheDesSchedule : Obligations.EveryStepKeepsTheDesSchedule :=
  fun _ _ => registerInvariant_desSchedule.step

/-- Settles O56: ERR is OK at reset, and the schedule invariants hold there as register invariants do. -/
theorem invariantsHoldAtReset : Obligations.InvariantsHoldAtReset :=
  ⟨registerInvariant_aesSchedule.reset, registerInvariant_desSchedule.reset, .inl rfl⟩

end Sys2Proof.Machine
end

section
/-! SUPPORT. The register window (10_state.md R29 to R37): what a named register's offset reads and what a write to it
leaves, first for registers and then for the offsets of the map. -/

namespace Sys2Proof.Machine

/-! ## Registers at their offsets -/

section
variable {r : Reg} {n : Nat} (h : regOffset r = some n)
include h

theorem regAt_ofNat : regAt (BitVec.ofNat 10 n).toNat = r := by
  obtain ⟨_, hlt⟩ := regOffset_aligned r n h
  rw [BitVec.toNat_ofNat, Nat.mod_eq_of_lt hlt]
  exact regAt_regOffset r n h

/-- The offset of a named register reads that register. -/
theorem hostRead_ofNat (s : State) : hostRead (BitVec.ofNat 10 n) s = readReg r s := by
  rw [hostRead, regAt_ofNat h]

/-- A write to the offset of a named register other than CMD writes that register. -/
theorem hostWrite_ofNat (hr : r ≠ .cmd) (v : Word) (s : State) :
    hostWrite (BitVec.ofNat 10 n) v s = .next (writeReg r v s) := by
  have hreg := regAt_ofNat h
  rw [hostWrite_other v s (hreg ▸ hr), hreg]

end

/-- An aligned offset that holds a named register is that register's own. -/
theorem regOffset_regAt : ∀ off : BitVec 10, off.toNat % 4 = 0 → regAt off.toNat ≠ .reserved →
    regOffset (regAt off.toNat) = some off.toNat := by
  decide +kernel

/-- No two aligned offsets hold the same named register (10_state.md R32). -/
theorem regAt_injective {off off' : BitVec 10} (ha : off.toNat % 4 = 0) (ha' : off'.toNat % 4 = 0)
    (hr : regAt off.toNat ≠ .reserved) (h : regAt off.toNat = regAt off'.toNat) : off = off' := by
  have e := regOffset_regAt off ha hr
  rw [h, regOffset_regAt off' ha' (h ▸ hr), Option.some.injEq] at e
  exact BitVec.eq_of_toNat_eq e.symm

/-! ## Kinds of register -/

/-- A word of AES_KEY or of a DES key (10_state.md R37). -/
def Reg.isKey : Reg → Bool
  | .aesKey _ | .desKeyHi _ | .desKeyLo _ => true
  | _ => false

/-- A word the host can read and write without another effect on the word (10_state.md R34): data and keys. -/
def Reg.isData : Reg → Bool
  | .aesState _ | .desBlockHi | .desBlockLo => true
  | r => r.isKey

/-- Neither data nor CMD: a host write to it is ignored (10_state.md R35). -/
def Reg.ignoresWrites (r : Reg) : Bool := !r.isData && r != .cmd

/-- A write to a read-only or reserved offset changes nothing (10_state.md R35). -/
theorem writeReg_of_ignoresWrites {r : Reg} (h : r.ignoresWrites = true) (v : Word) (s : State) :
    writeReg r v s = s := by
  cases r with
  | id | status | aesRk _ _ | desSkHi _ | desSkLo _ | reserved => rfl
  | _ => cases h

/-- A data or key word reads what was written to it (10_state.md R34). -/
theorem readReg_writeReg_same {r : Reg} (h : r.isData = true) (v : Word) (s : State) :
    readReg r (writeReg r v s) = v := by
  cases r with
  | aesState j | aesKey j => exact (wordAt_setWordAt _ _ _ _ j.isLt).trans (if_pos rfl)
  | desBlockHi => exact hiHalf_joinHalves _ _
  | desBlockLo => exact loHalf_joinHalves _ _
  | desKeyHi n | desKeyLo n => simp [readReg, writeReg]
  | _ => cases h

/-- What the halves of the other DES keys and the other half of the same key read after one half is written. -/
theorem desKeyHalf_set {f : DesBlock → Word} {keys : Vector DesBlock 3} {n m : Fin 3} {x : DesBlock}
    (h : m = n → f x = f keys[n]) : f (keys.set n.val x n.isLt)[m] = f keys[m] := by
  by_cases hm : m = n
  · subst hm
    simpa using h rfl
  · simp [Fin.val_ne_of_ne (Ne.symm hm)]

/-- A word not written reads as before; STATUS too, unless a key word was written (10_state.md R34, R37). -/
theorem readReg_writeReg_ne {r r' : Reg} (hne : r ≠ r') (hstatus : r' = .status → r.isKey = false)
    (v : Word) (s : State) : readReg r' (writeReg r v s) = readReg r' s := by
  have otherWord : ∀ (b : Block) {j k : Fin 4}, k ≠ j → wordAt (setWordAt b j.val v) k.val = wordAt b k.val :=
    fun b _ k hkj => (wordAt_setWordAt b v _ _ k.isLt).trans (if_neg (Fin.val_ne_of_ne hkj))
  cases r with
  | cmd =>
    cases r' with
    | cmd => exact absurd rfl hne
    | _ => rfl
  | aesState j =>
    cases r' with
    | aesState k => exact otherWord s.aesState fun h => hne (h ▸ rfl)
    | _ => rfl
  | aesKey j =>
    cases r' with
    | aesKey k => exact otherWord s.aesKey fun h => hne (h ▸ rfl)
    | status => cases hstatus rfl
    | _ => rfl
  | desBlockHi =>
    cases r' with
    | desBlockHi => exact absurd rfl hne
    | desBlockLo => exact loHalf_joinHalves _ _
    | _ => rfl
  | desBlockLo =>
    cases r' with
    | desBlockHi => exact hiHalf_joinHalves _ _
    | desBlockLo => exact absurd rfl hne
    | _ => rfl
  | desKeyHi n =>
    cases r' with
    | desKeyHi m => exact desKeyHalf_set (f := hiHalf) fun h => absurd (congrArg _ h.symm) hne
    | desKeyLo m => exact desKeyHalf_set fun _ => loHalf_joinHalves _ _
    | status => cases hstatus rfl
    | _ => rfl
  | desKeyLo n =>
    cases r' with
    | desKeyHi m => exact desKeyHalf_set fun _ => hiHalf_joinHalves _ _
    | desKeyLo m => exact desKeyHalf_set (f := loHalf) fun h => absurd (congrArg _ h.symm) hne
    | status => cases hstatus rfl
    | _ => rfl
  | _ => rfl

/-- No host write to a register is a command, so none writes ERR (10_state.md R30). -/
theorem writeReg_err (r : Reg) (v : Word) (s : State) : (writeReg r v s).err = s.err := by
  cases r <;> rfl

/-! ## The ranges of the map (10_state.md R32) -/

theorem isData_regAt : ∀ off : BitVec 10, off.toNat % 4 = 0 →
    (0x010 ≤ off.toNat ∧ off.toNat < 0x038 ∨ 0x040 ≤ off.toNat ∧ off.toNat < 0x058) →
    (regAt off.toNat).isData = true := by
  decide +kernel

theorem isKey_regAt_eq_false : ∀ off : BitVec 10,
    ¬(0x020 ≤ off.toNat ∧ off.toNat < 0x030 ∨ 0x040 ≤ off.toNat ∧ off.toNat < 0x058) →
    (regAt off.toNat).isKey = false := by
  decide +kernel

theorem regAt_eq_reserved : ∀ off : BitVec 10, off.toNat % 4 = 0 →
    (off ∈ [0x00C#10, 0x038#10, 0x03C#10] ∨ 0x058 ≤ off.toNat ∧ off.toNat < 0x100 ∨
      0x1B0 ≤ off.toNat ∧ off.toNat < 0x200 ∨ 0x280 ≤ off.toNat) → regAt off.toNat = .reserved := by
  decide +kernel

theorem ignoresWrites_regAt : ∀ off : BitVec 10, off.toNat % 4 = 0 →
    (off ∈ [0x000#10, 0x008#10] ∨ 0x100 ≤ off.toNat ∧ off.toNat < 0x1B0 ∨
      0x200 ≤ off.toNat ∧ off.toNat < 0x280) → (regAt off.toNat).ignoresWrites = true := by
  decide +kernel

/-- A host write to a read-only or reserved offset changes nothing and is no error (10_state.md R35). -/
theorem hostWrite_of_ignoresWrites {off : BitVec 10} (h : (regAt off.toNat).ignoresWrites = true) (v : Word) (s : State) :
    hostWrite off v s = .next s := by
  have hcmd : regAt off.toNat ≠ .cmd := fun hr => by simp [hr, Reg.ignoresWrites] at h
  rw [hostWrite_other v s hcmd, writeReg_of_ignoresWrites h]

/-- Settles O48: the ranges of the map hold registers that ignore writes. -/
theorem reservedAndReadOnlyIgnoreWrites : Obligations.ReservedAndReadOnlyIgnoreWrites := by
  refine ⟨fun off s ha hrange => ?reserved, fun off s v ha hrange => ?readOnly, fun _ => rfl⟩
  case reserved =>
    have hr := regAt_eq_reserved off ha hrange
    exact ⟨by rw [hostRead, hr, readReg], fun v => hostWrite_of_ignoresWrites (by rw [hr]; rfl) v s⟩
  case readOnly => exact hostWrite_of_ignoresWrites (ignoresWrites_regAt off ha hrange) v s

/-! ## STATUS (10_state.md R29) -/

theorem hostRead_status_reset : hostRead 0x008#10 State.reset = 0x00000000#32 := by decide

theorem dirBit_eq_ofBool (d : Dir) : d.bit = BitVec.ofBool (d = .dec) := by cases d <;> rfl

section
variable (s : State)

/-- The fields of several bits, each cut out of the concatenation. -/
theorem statusWord_fields :
    (statusWord s).extractLsb' 0 4 = s.err ∧ (statusWord s).extractLsb' 4 4 = 0#4 ∧
    (statusWord s).extractLsb' 10 2 = 0#2 ∧ (statusWord s).extractLsb' 14 2 = s.desKsel ∧
    (statusWord s).extractLsb' 16 5 = s.desNsk := by
  unfold statusWord
  refine ⟨?_, ?_, ?_, ?_, ?_⟩ <;>
    simp (disch := decide) only [BitVec.extractLsb'_setWidth_of_le, BitVec.extractLsb'_append_eq_of_le,
      BitVec.extractLsb'_append_eq_of_add_le, Nat.reduceSub, BitVec.extractLsb'_eq_self]

/-- The fields end with DES_NSK at bit 20. -/
theorem statusWord_zeros_above_desNsk : (statusWord s).extractLsb' 21 11 = 0#11 := by
  apply BitVec.eq_of_getLsbD_eq
  intro k _
  rw [statusWord, BitVec.getLsbD_extractLsb', BitVec.getLsbD_setWidth,
    BitVec.getLsbD_of_ge _ (21 + k) (Nat.le_add_right 21 k), Bool.and_false, Bool.and_false, BitVec.getLsbD_zero]

/-- The fields of one bit. -/
theorem statusWord_flags :
    (statusWord s).getLsbD 8 = s.aesKsv ∧ ((statusWord s).getLsbD 9 = true ↔ s.aesKsdir = .dec) ∧
    (statusWord s).getLsbD 12 = s.desKsv ∧ ((statusWord s).getLsbD 13 = true ↔ s.desKsdir = .dec) := by
  unfold statusWord
  rw [dirBit_eq_ofBool, dirBit_eq_ofBool]
  refine ⟨?_, ?_, ?_, ?_⟩ <;>
    simp only [BitVec.getLsbD_setWidth, BitVec.getLsbD_append, Nat.reduceLT, Nat.reduceSub, BitVec.getLsbD_ofBool,
      decide_true, Bool.true_and, if_true, if_false, decide_eq_true_eq]

end

/-- Settles O45: the word at 0x008 is `statusWord`, whose fields are read off one by one. -/
theorem statusFieldsAreAtTheirPlaces : Obligations.StatusFieldsAreAtTheirPlaces := by
  have reads : ∀ s, hostRead 0x008#10 s = statusWord s := hostRead_ofNat (r := .status) rfl
  refine ⟨fun s => ?fields, fun s hinv => ?ranges, ?ignored, hostRead_status_reset⟩
  case fields =>
    obtain ⟨herr, hzero4, hzero10, hksel, hnsk⟩ := statusWord_fields s
    obtain ⟨haes, haesDir, hdes, hdesDir⟩ := statusWord_flags s
    rw [reads]
    exact ⟨herr, hzero4, haes, haesDir, hzero10, hdes, hdesDir, hksel, hnsk, statusWord_zeros_above_desNsk s⟩
  case ranges =>
    obtain ⟨_, _, _, hksel, hnsk⟩ := statusWord_fields s
    obtain ⟨hkselRange, hnskRange, _⟩ := hinv
    rw [reads, hksel, hnsk]
    exact ⟨hkselRange, hnskRange⟩
  case ignored => exact hostWrite_ofNat (r := .status) rfl (by decide)

/-! ## Reads (10_state.md R33) -/

/-- Byte i of word j of a block is byte `4j + i` of the block. -/
theorem wordByte_wordAt (v : Block) {j i : Nat} (hj : j < 4) (hi : i < 4) :
    wordByte (wordAt v j) i = byteAt v (4 * j + i) := by
  apply BitVec.eq_of_getLsbD_eq
  intro k hk
  have hplace : 96 - 32 * j + (24 - 8 * i + k) = 120 - 8 * (4 * j + i) + k := by omega
  rw [getLsbD_byteAt v _ k hk, wordByte, BitVec.getLsbD_extractLsb', getLsbD_wordAt v j _ (by omega), hplace,
    decide_eq_true hk, Bool.true_and]

/-- Settles O46: each offset is its register's, and the register's read is the slice stated. -/
theorem registerMapReads : Obligations.RegisterMapReads := by
  intro s
  refine ⟨rfl, rfl, fun j hj => ?_, hostRead_ofNat (r := .desBlockHi) rfl s, hostRead_ofNat (r := .desBlockLo) rfl s,
    fun n => ⟨hostRead_ofNat (r := .desKeyHi n) rfl s, hostRead_ofNat (r := .desKeyLo n) rfl s⟩,
    fun k j hj => hostRead_ofNat (r := .aesRk k ⟨j, hj⟩) rfl s,
    fun k => ⟨hostRead_ofNat (r := .desSkHi k) rfl s, hostRead_ofNat (r := .desSkLo k) rfl s⟩⟩
  have hstate := hostRead_ofNat (r := .aesState ⟨j, hj⟩) rfl s
  refine ⟨hstate, hostRead_ofNat (r := .aesKey ⟨j, hj⟩) rfl s, fun i hi => ?_⟩
  rw [hstate]
  exact wordByte_wordAt s.aesState hj hi

/-- Settles O54: the fields by definition, STATUS and ID by reading them. -/
theorem resetLeavesEveryRegisterZero : Obligations.ResetLeavesEveryRegisterZero :=
  ⟨rfl, rfl, fun _ => Vector.getElem_replicate _, rfl, rfl, rfl, fun _ => Vector.getElem_replicate _,
    fun _ => Vector.getElem_replicate _, rfl, rfl, rfl, rfl, rfl, rfl, hostRead_status_reset, rfl⟩

/-! ## Writes (10_state.md R34, R37) -/

/-- A write to an aligned offset other than CMD changes no other word, nor STATUS unless it writes a key word. -/
theorem hostWrite_keeps_other_words {off off' : BitVec 10} (v : Word) (s : State)
    (ha : off.toNat % 4 = 0) (ha' : off'.toNat % 4 = 0) (hne : off ≠ off') (hcmd : off ≠ 0x004#10)
    (hstatus : off' = 0x008#10 → (regAt off.toNat).isKey = false) :
    ∃ t, hostWrite off v s = .next t ∧ hostRead off' t = hostRead off' s := by
  refine ⟨_, hostWrite_other v s (mt (regAt_eq_cmd off ha).mp hcmd), ?_⟩
  by_cases hr : regAt off.toNat = .reserved
  · rw [hr, writeReg]
  · refine readReg_writeReg_ne (fun h => hne (regAt_injective ha ha' hr h)) (fun h => hstatus ?_) v s
    exact (regAt_injective (by decide) ha' (by decide) (h ▸ rfl : regAt (0x008#10).toNat = _)).symm

/-- A data or key word is read back. -/
theorem hostWrite_stores {off : BitVec 10} (v : Word) (s : State) (h : (regAt off.toNat).isData = true) :
    ∃ t, hostWrite off v s = .next t ∧ hostRead off t = v :=
  ⟨_, hostWrite_other v s fun hr => by simp [hr, Reg.isData, Reg.isKey] at h, readReg_writeReg_same h v s⟩

/-- Settles O47: at the offsets in general by the register that stands there, and the words of AES_STATE and DES_BLOCK by
their own writes. -/
theorem aWriteChangesOnlyItsWord : Obligations.AWriteChangesOnlyItsWord := by
  refine ⟨fun off off' v s ha ha' hne hcmd hstatus => ?others, fun off v s ha hrange => ?stored,
    fun j v s hj => ⟨?aesState, ?written, ?kept⟩, fun v s => ?hi, fun v s => ?lo⟩
  case others =>
    exact hostWrite_keeps_other_words v s ha ha' hne hcmd fun h => isKey_regAt_eq_false off (hstatus h)
  case stored => exact hostWrite_stores v s (isData_regAt off ha hrange)
  case aesState => exact hostWrite_ofNat (r := .aesState ⟨j, hj⟩) rfl (by simp) v s
  case written => rw [wordAt_setWordAt _ _ _ _ hj, if_pos rfl]
  case kept => exact fun k hk hkj => by rw [wordAt_setWordAt _ _ _ _ hk, if_neg hkj]
  case hi =>
    exact ⟨_, hostWrite_ofNat (r := .desBlockHi) rfl (by simp) v s, rfl, hiHalf_joinHalves _ _, loHalf_joinHalves _ _⟩
  case lo =>
    exact ⟨_, hostWrite_ofNat (r := .desBlockLo) rfl (by simp) v s, rfl, loHalf_joinHalves _ _, hiHalf_joinHalves _ _⟩

/-- AES_ARK with a legal index fails while AES_KSV is 0 (60_exceptions.md R303). -/
theorem exec_aesArk_unscheduled {s : State} {idx : BitVec 4} (hidx : idx.toNat ≤ 10) (hksv : s.aesKsv = false) :
    exec (.aesArk idx) s = .next { s with err := 0x5#4 } :=
  exec_of_check_eq (code := .noKeySchedule) (by simp [commandCheck, hksv, Nat.not_lt.mpr hidx]) (by decide)

/-- DES_ROUND fails while DES_KSV is 0 (60_exceptions.md R303). -/
theorem exec_desRound_unscheduled {s : State} (idx : BitVec 4) (hksv : s.desKsv = false) :
    exec (.desRound idx) s = .next { s with err := 0x5#4 } :=
  exec_of_check_eq (code := .noKeySchedule) (by simp [commandCheck, hksv]) (by decide)

/-- Settles O49: a key word's write, whole, and the check of the round command that follows it. -/
theorem keyWritesClearTheValidFlag : Obligations.KeyWritesClearTheValidFlag := by
  have aesKey {j : Nat} (hj : j < 4) := hostWrite_ofNat (r := .aesKey ⟨j, hj⟩) rfl (by simp)
  have desKeyHi (n : Fin 3) := hostWrite_ofNat (r := .desKeyHi n) rfl (by simp)
  have desKeyLo (n : Fin 3) := hostWrite_ofNat (r := .desKeyLo n) rfl (by simp)
  have otherKey (s : State) (n : Fin 3) (x : DesBlock) (m : Fin 3) (hm : m ≠ n) :
      (s.desKey.set n.val x n.isLt)[m] = s.desKey[m] :=
    Vector.getElem_set_ne _ _ (Fin.val_ne_of_ne hm.symm)
  refine ⟨fun j v s hj => aesKey hj v s, fun n v s => ?hi, fun n v s => ?lo, fun j v s t idx hj hidx h => ?ark,
    fun n v s t idx h => ?round⟩
  case hi => exact ⟨_, desKeyHi n v s, rfl, by simp [writeReg], by simp [writeReg], otherKey s n _⟩
  case lo => exact ⟨_, desKeyLo n v s, rfl, by simp [writeReg], by simp [writeReg], otherKey s n _⟩
  case ark =>
    cases (aesKey hj v s).symm.trans h
    exact exec_aesArk_unscheduled hidx rfl
  case round =>
    rcases h with h | h
    · cases (desKeyHi n v s).symm.trans h
      exact exec_desRound_unscheduled idx rfl
    · cases (desKeyLo n v s).symm.trans h
      exact exec_desRound_unscheduled idx rfl

end Sys2Proof.Machine
end

section
/-! SUPPORT. Commands as steps: a word written to CMD, and what of a transaction reaches ERR (10_state.md R30, R31). -/

namespace Sys2Proof.Machine

/-- The write that a command is (30_encoding.md R93) is 32 bits at an aligned offset. -/
theorem legalTransaction_command (w : Word) : legalTransaction ⟨true, 0x004#10, 2#2, w⟩ = true := by
  simp [legalTransaction]

/-- The checks of a word do not read the host's events. -/
theorem wordCheck_pending (w : Word) (s : State) (events : List HostEvent) :
    wordCheck w { s with pending := events } = wordCheck w s := by
  unfold wordCheck
  cases decode w with
  | illegal e => rfl
  | ok i => cases i <;> rfl

/-- Settles O52: a failing word and a succeeding one both leave CMD_LAST as the write set it. -/
theorem cmdHoldsTheLastWordWritten : Obligations.CmdHoldsTheLastWordWritten := by
  refine ⟨fun w s => ?written, fun w i s hd => runCommandWord_ok s hd, fun _ => rfl,
    fun s rest hp => step_read hp rfl rfl⟩
  rcases runCommandWord_checked w s with ⟨_, he⟩ | ⟨_, i, _, _, he⟩
  · exact ⟨_, he, rfl, rfl⟩
  · have hlast : (succeed (semantics i (writeReg .cmd w s))).cmdLast = w := (semantics_host i _).1
    exact ⟨_, he, hlast, hlast⟩

/-- Settles O6: the step is the write, the write is the decoded command, and withFetchWord cuts no bit off the word. -/
theorem stepRunsTheDecodedCommand : Obligations.StepRunsTheDecodedCommand := by
  refine ⟨fun s rest w i hp hd => ?step, fun s w => ?offered⟩
  case step =>
    calc step s = respondAfter (hostWrite 0x004#10 w { s with pending := rest }) := by
          rw [step_event hp]
          exact performTransaction_write _ (legalTransaction_command w) rfl
      _ = respondAfter (exec i { s with pending := rest, cmdLast := w }) := by
          rw [hostWrite_cmd, runCommandWord_ok _ hd]
          rfl
      _ = _ := rfl
  case offered =>
    have hword : tableWord 32 w.toNat = w := by
      rw [tableWord, Nat.mod_eq_of_lt w.isLt, BitVec.ofNat_toNat, BitVec.setWidth_eq]
    rw [State.withFetchWord, hword]

/-- A legal write to CMD is a command event. -/
theorem access_eq_commandEvent {tr : Transaction} (hl : legalTransaction tr = true) (hw : tr.write = true)
    (hr : regAt tr.addr.toNat = .cmd) : HostEvent.access tr = commandEvent tr.wdata := by
  obtain ⟨hsize, haddr⟩ := legalTransaction_eq_true.mp hl
  have hoff : tr.addr = 0x004#10 := (regAt_eq_cmd tr.addr haddr).mp hr
  rw [commandEvent, writeEvent, ← hoff, ← hsize, ← hw]

theorem step_command_err {s t : State} {w : Word} {rest : List HostEvent} (hp : s.pending = commandEvent w :: rest)
    (hstep : step s = .next t) : t.err = errValue (wordCheck w s) := by
  obtain ⟨u, hu, _, _, _, hstep'⟩ := step_write hp (legalTransaction_command w) rfl
  cases hstep'.symm.trans hstep
  exact (runCommandWord_err hu).trans (by rw [wordCheck_pending])

theorem step_access_err {s t : State} {tr : Transaction} {rest : List HostEvent} (hp : s.pending = .access tr :: rest)
    (hcmd : ∀ w, HostEvent.access tr ≠ commandEvent w) (hstep : step s = .next t) : t.err = s.err := by
  cases hl : legalTransaction tr with
  | false =>
    cases (step_illegal hp hl).symm.trans hstep
    rfl
  | true =>
    cases hw : tr.write with
    | false =>
      cases (step_read hp hl hw).symm.trans hstep
      rfl
    | true =>
      obtain ⟨u, hu, _, _, _, hstep'⟩ := step_write hp hl hw
      cases hstep'.symm.trans hstep
      have hr : regAt tr.addr.toNat ≠ .cmd := fun h => hcmd _ (access_eq_commandEvent hl hw h)
      cases (hostWrite_other _ _ hr).symm.trans hu
      exact writeReg_err _ _ _

/-- Settles O9: a command event leaves its checks' code, and no other transaction reaches ERR. -/
theorem errReportsTheLatestCommand : Obligations.ErrReportsTheLatestCommand := by
  intro s t e rest hp hstep
  refine ⟨fun w he => step_command_err (he ▸ hp) hstep, fun hreset hcmd => ?_⟩
  cases e with
  | reset => exact absurd rfl hreset
  | access tr => exact step_access_err hp hcmd hstep

end Sys2Proof.Machine
end

section
/-! SUPPORT. Bus errors and reads: what a step does with the host's recorded fault (20_memory.md R63), and that no read
changes a register (R67). -/

namespace Sys2Proof.Machine

/-- A legal transaction, read or write, is answered with something other than an error and records no fault. -/
theorem step_legal_answer {s t : State} {tr : Transaction} {rest : List HostEvent} (hp : s.pending = .access tr :: rest)
    (hl : legalTransaction tr = true) (hstep : step s = .next t) :
    t.busFault = s.busFault ∧ ∃ r, r ≠ Response.busError ∧ t.responses = r :: s.responses := by
  cases hw : tr.write with
  | false =>
    cases (step_read hp hl hw).symm.trans hstep
    exact ⟨rfl, _, Response.noConfusion, rfl⟩
  | true =>
    obtain ⟨u, _, _, _, hfault, hstep'⟩ := step_write hp hl hw
    cases hstep'.symm.trans hstep
    exact ⟨hfault, .done, Response.noConfusion, rfl⟩

/-- The recorded fault is sticky: a bus error sets it, and every other event, a reset included, leaves it. -/
theorem step_keeps_busFault {s t : State} (hfault : s.busFault = true) (hstep : step s = .next t) :
    t.busFault = true := by
  match hp : s.pending with
  | [] =>
    cases (step_idle hp).symm.trans hstep
    exact hfault
  | .reset :: rest =>
    cases (step_reset hp).symm.trans hstep
    exact hfault
  | .access tr :: rest =>
    cases hl : legalTransaction tr with
    | false =>
      cases (step_illegal hp hl).symm.trans hstep
      rfl
    | true =>
      obtain ⟨hsame, _⟩ := step_legal_answer hp hl hstep
      exact hsame.trans hfault

/-- Settles O50: an illegal transaction's step equation, the sticky fault, and the answer to a legal transaction. -/
theorem busErrorChangesNoRegister : Obligations.BusErrorChangesNoRegister :=
  ⟨fun _ _ _ hp hbad => step_illegal hp (legalTransaction_eq_false.mpr hbad),
    fun _ _ hfault hstep => step_keeps_busFault hfault hstep,
    fun _ _ _ _ hp hsize haddr hstep => step_legal_answer hp (legalTransaction_eq_true.mpr ⟨hsize, haddr⟩) hstep⟩

/-- Settles O51: a legal read has its own step equation, and any other read gets the bus error, which changes no register. -/
theorem readsHaveNoSideEffect : Obligations.ReadsHaveNoSideEffect := by
  refine ⟨fun s tr rest hp hw hsize haddr => step_read hp (legalTransaction_eq_true.mpr ⟨hsize, haddr⟩) hw,
    fun s t tr rest hp hw hstep => ?_⟩
  cases hl : legalTransaction tr with
  | false =>
    cases (step_illegal hp hl).symm.trans hstep
    rfl
  | true =>
    cases (step_read hp hl hw).symm.trans hstep
    rfl

end Sys2Proof.Machine
end

section
/-! SUPPORT. The decoder against the encoder (30_encoding.md R80 to R91): the fields of a word, the rows that words select,
and the word of every assembler line. The key fact is that the words that select a row are the words `encode` gives. -/

namespace Sys2Proof

/-! ## The fields of a word (R80) -/

section
variable (opc : BitVec 8) (idx : BitVec 4) (dir k3 : BitVec 1) (ksel : BitVec 2) (nr : BitVec 5)

/-- The fields lie one beside the other, so the word is their concatenation. -/
theorem packWord_eq_append :
    packWord opc idx dir k3 ksel nr = (nr ++ ksel ++ k3 ++ dir ++ idx ++ opc).setWidth 32 := by
  simp only [packWord, BitVec.setWidth_append_eq_shiftLeft_setWidth_or, BitVec.shiftLeft_or_distrib,
    ← BitVec.shiftLeft_add]

/-- Each field cut out of the concatenation. -/
theorem fields_packWord :
    opcOf (packWord opc idx dir k3 ksel nr) = opc ∧ idxOf (packWord opc idx dir k3 ksel nr) = idx ∧
    (packWord opc idx dir k3 ksel nr).extractLsb' 12 1 = dir ∧
    (packWord opc idx dir k3 ksel nr).extractLsb' 13 1 = k3 ∧
    kselOf (packWord opc idx dir k3 ksel nr) = ksel ∧ nrOf (packWord opc idx dir k3 ksel nr) = nr := by
  rw [packWord_eq_append]
  refine ⟨?_, ?_, ?_, ?_, ?_, ?_⟩ <;>
    simp (disch := decide) only [opcOf, idxOf, kselOf, nrOf, BitVec.extractLsb'_setWidth_of_le,
      BitVec.extractLsb'_append_eq_of_le, BitVec.extractLsb'_append_eq_of_add_le, Nat.reduceSub,
      BitVec.extractLsb'_eq_self]

end

theorem extractLsb'_one (w : Word) (start : Nat) : w.extractLsb' start 1 = BitVec.ofBool (w.getLsbD start) := by
  apply BitVec.eq_of_getLsbD_eq
  intro k hk
  obtain rfl := Nat.lt_one_iff.mp hk
  simp

theorem bit_dirOf (w : Word) : (dirOf w).bit = w.extractLsb' 12 1 := by
  rw [extractLsb'_one, dirOf]
  cases w.getLsbD 12 <;> rfl

theorem bit_k3Of (w : Word) : (k3Of w).bit = w.extractLsb' 13 1 := by
  rw [extractLsb'_one, k3Of]
  cases w.getLsbD 13 <;> rfl

theorem Dir.bit_injective : Function.Injective Dir.bit := by
  intro a b h
  cases a <;> cases b <;> cases h <;> rfl

theorem TdesKeys.bit_injective : Function.Injective TdesKeys.bit := by
  intro a b h
  cases a <;> cases b <;> cases h <;> rfl

section
variable (opc : BitVec 8) (idx : BitVec 4) (ksel : BitVec 2) (nr : BitVec 5)

theorem dirOf_packWord (dir : Dir) (k3 : BitVec 1) : dirOf (packWord opc idx dir.bit k3 ksel nr) = dir := by
  obtain ⟨_, _, hdir, _⟩ := fields_packWord opc idx dir.bit k3 ksel nr
  exact Dir.bit_injective ((bit_dirOf _).trans hdir)

theorem k3Of_packWord (dir : BitVec 1) (keys : TdesKeys) : k3Of (packWord opc idx dir keys.bit ksel nr) = keys := by
  obtain ⟨_, _, _, hk3, _⟩ := fields_packWord opc idx dir keys.bit ksel nr
  exact TdesKeys.bit_injective ((bit_k3Of _).trans hk3)

end

/-- A field moved back to its place is the word with every other bit cleared. -/
theorem shiftLeft_extractLsb' (w : Word) (start len : Nat) :
    (w.extractLsb' start len).setWidth 32 <<< start = w &&& (BitVec.allOnes len).setWidth 32 <<< start := by
  apply BitVec.eq_of_getLsbD_eq
  intro k hk
  by_cases h : k < start
  · simp [h]
  · have hplace : start + (k - start) = k := by omega
    simp [h, hk, hplace, Bool.and_comm]

/-! ## Rows (R86, R87) -/

/-- A row's pattern is its opcode, and its mask holds the opcode and the opcode's must-be-zero bits. -/
theorem opcodeMap_masks : ∀ r ∈ opcodeMap,
    r.mask = 0x000000FF#32 ||| mustBeZero (opcOf r.pattern) ∧ r.pattern = (opcOf r.pattern).setWidth 32 := by
  decide

theorem assignedOpcodes_eq_map : assignedOpcodes = opcodeMap.map fun r => opcOf r.pattern := by
  decide

theorem opcOf_setWidth (opc : BitVec 8) : opcOf (opc.setWidth 32) = opc := by
  rw [opcOf, BitVec.extractLsb'_setWidth_of_le (by decide), BitVec.extractLsb'_eq_self]

theorem setWidth_opcOf (w : Word) : (opcOf w).setWidth 32 = w &&& 0x000000FF#32 := by
  simpa [opcOf] using shiftLeft_extractLsb' w 0 8

/-- No bit of an opcode has to be zero. -/
theorem setWidth_and_mustBeZero : ∀ opc : BitVec 8, opc.setWidth 32 &&& mustBeZero opc = 0#32 := by
  decide

/-- Under the mask of the opcode and the must-be-zero bits, a word is an opcode exactly when it has that opcode and no
must-be-zero bit is 1. -/
theorem and_opcodeMask_eq_iff (w : Word) (opc : BitVec 8) :
    w &&& (0x000000FF#32 ||| mustBeZero opc) = opc.setWidth 32 ↔ opcOf w = opc ∧ w &&& mustBeZero opc = 0#32 := by
  constructor
  · intro h
    have hmask : opcOf (0x000000FF#32 ||| mustBeZero opc) = BitVec.allOnes 8 := by
      rw [opcOf, BitVec.extractLsb'_or]
      exact BitVec.allOnes_or
    have hopc : opcOf w = opc :=
      calc opcOf w = opcOf w &&& opcOf (0x000000FF#32 ||| mustBeZero opc) := by rw [hmask, BitVec.and_allOnes]
        _ = opcOf (w &&& (0x000000FF#32 ||| mustBeZero opc)) := BitVec.extractLsb'_and.symm
        _ = opc := by rw [h, opcOf_setWidth]
    have hzero : w &&& mustBeZero opc = 0#32 :=
      calc w &&& mustBeZero opc = w &&& (0x000000FF#32 ||| mustBeZero opc) &&& mustBeZero opc := by
            ext k hk
            grind
        _ = 0#32 := by rw [h, setWidth_and_mustBeZero]
    exact ⟨hopc, hzero⟩
  · rintro ⟨rfl, hzero⟩
    rw [BitVec.and_or_distrib_left, hzero, BitVec.or_zero, setWidth_opcOf]

/-- A word meets a row exactly when it has the row's opcode and no must-be-zero bit is 1. -/
theorem and_mask_eq_pattern_iff {r : OpRow} (hr : r ∈ opcodeMap) (w : Word) :
    w &&& r.mask = r.pattern ↔ opcOf w = opcOf r.pattern ∧ w &&& mustBeZero (opcOf r.pattern) = 0#32 := by
  obtain ⟨hmask, hpattern⟩ := opcodeMap_masks r hr
  rw [← and_opcodeMask_eq_iff, ← hmask, ← hpattern]

theorem selectRow_meets {w : Word} {r : OpRow} (h : selectRow w = some r) :
    r ∈ opcodeMap ∧ w &&& r.mask = r.pattern :=
  ⟨List.mem_of_find?_eq_some h, by simpa using List.find?_some h⟩

theorem selectRow_isSome_iff (w : Word) :
    (selectRow w).isSome ↔ opcOf w ∈ assignedOpcodes ∧ w &&& mustBeZero (opcOf w) = 0#32 := by
  simp only [selectRow, List.find?_isSome, beq_iff_eq, assignedOpcodes_eq_map, List.mem_map]
  constructor
  · rintro ⟨r, hr, hmeets⟩
    obtain ⟨hopc, hzero⟩ := (and_mask_eq_pattern_iff hr w).mp hmeets
    exact ⟨⟨r, hr, hopc.symm⟩, hopc ▸ hzero⟩
  · rintro ⟨⟨r, hr, hopc⟩, hzero⟩
    exact ⟨r, hr, (and_mask_eq_pattern_iff hr w).mpr ⟨hopc.symm, hopc ▸ hzero⟩⟩

/-- Two rows that one word meets agree on every bit that both masks hold. -/
theorem patterns_agree {a b : OpRow} {w : Word} (ha : w &&& a.mask = a.pattern) (hb : w &&& b.mask = b.pattern) :
    a.pattern &&& (a.mask &&& b.mask) = b.pattern &&& (a.mask &&& b.mask) := by
  calc a.pattern &&& (a.mask &&& b.mask) = w &&& (a.mask &&& a.mask) &&& b.mask := by rw [← ha]; ac_rfl
    _ = w &&& a.mask &&& (b.mask &&& b.mask) := by rw [BitVec.and_self, BitVec.and_self]
    _ = b.pattern &&& (a.mask &&& b.mask) := by rw [← hb]; ac_rfl

/-- A word that meets a row selects it, as it meets none of the rows before it. -/
theorem selectRow_eq_some {r : OpRow} (hr : r ∈ opcodeMap) {w : Word} (h : w &&& r.mask = r.pattern) :
    selectRow w = some r := by
  obtain ⟨before, behind, hsplit⟩ := List.append_of_mem hr
  refine List.find?_eq_some_iff_append.mpr ⟨beq_iff_eq.mpr h, before, behind, hsplit, fun a ha => ?_⟩
  obtain ⟨_, _, hdisjoint⟩ := List.pairwise_append.mp (hsplit ▸ opcodeMap_rows_disjoint)
  have hnot : ¬ w &&& a.mask = a.pattern := fun hmeets => hdisjoint a ha r List.mem_cons_self (patterns_agree hmeets h)
  rw [beq_false_of_ne hnot, Bool.not_false]

/-- A row's command has the word's own fields, so its word is the row's pattern and the word's bits outside the mask. -/
theorem encode_build (w : Word) : ∀ r ∈ opcodeMap, encode (r.build w) = w &&& ~~~r.mask ||| r.pattern := by
  simp only [opcodeMap, aesRows, desRows, List.cons_append, List.nil_append, List.forall_mem_cons]
  simp [encode, packWord, opcode, bit_dirOf, bit_k3Of, idxOf, kselOf, nrOf, shiftLeft_extractLsb',
    ← BitVec.and_or_distrib_left]

/-- A word that selects a row is the word of the row's command. -/
theorem encode_build_of_selectRow {w : Word} {r : OpRow} (h : selectRow w = some r) : encode (r.build w) = w := by
  obtain ⟨hr, hmeets⟩ := selectRow_meets h
  calc encode (r.build w) = w &&& ~~~r.mask ||| w &&& r.mask := by rw [encode_build w r hr, hmeets]
    _ = w := by rw [← BitVec.and_or_distrib_left, BitVec.not_or_self, BitVec.and_allOnes]

open Laws.RowMatch in
/-- The family RowMatch, for every command. -/
theorem encode_and_rowMask (i : Instr) : encode i &&& rowMask i = (opcode i).setWidth 32 := by
  change Statement i
  cases i <;> simp only [nop, aesSub, aesInvsub, aesShift, aesInvshift, aesMix, aesInvmix, aesArk, aesKeyexp, aesEnc,
    aesDec, desIp, desFp, desSwap, desRound, desKeyexp, desEnc, desDec, tdesEnc, tdesDec]

/-- Each command's row (R87), which reads the command back from its word. -/
theorem exists_row_build_encode (i : Instr) : ∃ r ∈ opcodeMap,
    r.mask = rowMask i ∧ r.pattern = (opcode i).setWidth 32 ∧ r.build (encode i) = i := by
  cases i <;>
    simp [opcodeMap, aesRows, desRows, rowMask, opcode, encode, fields_packWord, dirOf_packWord, k3Of_packWord]

/-- Every command's word, legal or not, selects the command's row, so that only its fields are left to check (R88). -/
theorem selectRow_encode (i : Instr) : ∃ r, selectRow (encode i) = some r ∧ r.build (encode i) = i := by
  obtain ⟨r, hr, hmask, hpattern, hbuild⟩ := exists_row_build_encode i
  exact ⟨r, selectRow_eq_some hr (by rw [hmask, hpattern, encode_and_rowMask]), hbuild⟩

/-! ## The decoder on the encoder's words (R88, R89) -/

/-- The decoder finds any command, legal or not, in its word, and answers what the checks say of it. -/
theorem decode_encode (i : Instr) : decode (encode i) = checkFields i := by
  obtain ⟨r, hsel, hbuild⟩ := selectRow_encode i
  simp only [decode, hsel, hbuild]

/-- A word selects no row, or it is the word of a command. -/
theorem selectRow_eq_none_or_encode (w : Word) : selectRow w = none ∨ ∃ i, w = encode i := by
  cases h : selectRow w with
  | none => exact .inl rfl
  | some r => exact .inr ⟨_, (encode_build_of_selectRow h).symm⟩

theorem decode_of_selectRow_none {w : Word} (h : selectRow w = none) : decode w = .illegal .noRow := by
  simp only [decode, h]

/-- The converse of `checkFields_ok`. -/
theorem checkFields_of_wellFormed {i : Instr} (h : i.wellFormed = true) : checkFields i = .ok i := by
  have ksel_ne : ∀ k : BitVec 2, k.toNat ≤ 2 → k ≠ 3#2 := by decide
  cases i <;> simp_all [checkFields, Instr.wellFormed]

theorem checkFields_illegal_iff (i : Instr) : (∃ e, checkFields i = .illegal e) ↔ i.wellFormed = false := by
  cases hwf : i.wellFormed with
  | true => simp [checkFields_of_wellFormed hwf]
  | false =>
    cases hc : checkFields i with
    | ok j =>
      obtain ⟨_, hlegal⟩ := checkFields_ok hc
      simp [hwf] at hlegal
    | illegal e => simp

/-- The illegal fields, read off the command's word (R89, third and fourth items). -/
theorem wellFormed_eq_false_iff (i : Instr) :
    i.wellFormed = false ↔ opcOf (encode i) = 0x16#8 ∧ 11 ≤ (idxOf (encode i)).toNat ∨
      opcOf (encode i) ∈ [0x50#8, 0x60#8, 0x61#8] ∧ kselOf (encode i) = 3#2 := by
  have ksel_three : ∀ k : BitVec 2, 2 < k.toNat ↔ k = 3#2 := by decide
  cases i <;> simp [Instr.wellFormed, encode, opcode, fields_packWord, ksel_three, Nat.succ_le_iff]

/-! ## The statements -/

/-- Settles O1: the command's word selects its own row, and the checks pass its fields. -/
theorem decodeOfEncodeIsTheCommand : Obligations.DecodeOfEncodeIsTheCommand :=
  fun i h => (decode_encode i).trans (checkFields_of_wellFormed h)

/-- Settles O2: a word that decodes selects a row, so it is the word of a command that passes the checks unchanged. -/
theorem encodeOfDecodeIsTheWord : Obligations.EncodeOfDecodeIsTheWord := by
  intro w i h
  rcases selectRow_eq_none_or_encode w with hnone | ⟨j, rfl⟩
  · cases (decode_of_selectRow_none hnone).symm.trans h
  · obtain ⟨rfl, hwf⟩ := checkFields_ok ((decode_encode j).symm.trans h)
    exact ⟨rfl, hwf⟩

/-- Settles O3: a word that selects no row has a wrong opcode or must-be-zero bit, and the word of a command is illegal
exactly when the command's fields are. -/
theorem illegalWordsAreExactlyTheListedOnes : Obligations.IllegalWordsAreExactlyTheListedOnes := by
  intro w
  refine ⟨?_, fun ⟨e, h⟩ s => Machine.runCommandWord_illegal s h⟩
  rcases selectRow_eq_none_or_encode w with hnone | ⟨i, rfl⟩
  · have hbits : ¬ (opcOf w ∈ assignedOpcodes ∧ w &&& mustBeZero (opcOf w) = 0#32) := by
      simp [← selectRow_isSome_iff, hnone]
    refine iff_of_true ⟨_, decode_of_selectRow_none hnone⟩ ?_
    rcases Decidable.not_and_iff_not_or_not.mp hbits with hopc | hzero
    · exact .inl hopc
    · exact .inr (.inl hzero)
  · obtain ⟨r, hsel, _⟩ := selectRow_encode i
    obtain ⟨hopc, hzero⟩ := (selectRow_isSome_iff (encode i)).mp (by rw [hsel]; rfl)
    rw [decode_encode, checkFields_illegal_iff, wellFormed_eq_false_iff]
    simp only [hopc, hzero, not_true_eq_false, ne_eq, false_or]

/-- Settles O4, by decoding each word. -/
theorem sampleWordsDecode : Obligations.SampleWordsDecode := by
  unfold Obligations.SampleWordsDecode
  decide

/-! ## The assembler (R91) -/

section
variable (opc : BitVec 8) (idx : BitVec 4) (dir k3 : BitVec 1) (ksel : BitVec 2) (nr : BitVec 5)

/-- The fields from bit 0 upwards, each at its place. -/
theorem packWord_ascending :
    packWord opc idx dir k3 ksel nr =
      opc.setWidth 32 ||| idx.setWidth 32 <<< 8 ||| dir.setWidth 32 <<< 12 ||| k3.setWidth 32 <<< 13
        ||| ksel.setWidth 32 <<< 14 ||| nr.setWidth 32 <<< 16 := by
  have reverse (a b c d e f : Word) : f ||| e ||| d ||| c ||| b ||| a = a ||| b ||| c ||| d ||| e ||| f := by ac_rfl
  exact reverse ..

end

theorem encode_aesArk (idx : BitVec 4) : encode (.aesArk idx) = 0x16#32 ||| idx.setWidth 32 <<< 8 := by
  simp [encode, opcode, packWord_ascending]

theorem encode_desRound (idx : BitVec 4) : encode (.desRound idx) = 0x43#32 ||| idx.setWidth 32 <<< 8 := by
  simp [encode, opcode, packWord_ascending]

theorem encode_desKeyexp (dir : Dir) (ksel : BitVec 2) (nr : BitVec 5) : encode (.desKeyexp dir ksel nr) =
    0x50#32 ||| dir.bit.setWidth 32 <<< 12 ||| ksel.setWidth 32 <<< 14 ||| nr.setWidth 32 <<< 16 := by
  simp [encode, opcode, packWord_ascending]

theorem encode_desEnc (ksel : BitVec 2) (nr : BitVec 5) :
    encode (.desEnc ksel nr) = 0x60#32 ||| ksel.setWidth 32 <<< 14 ||| nr.setWidth 32 <<< 16 := by
  simp [encode, opcode, packWord_ascending]

theorem encode_desDec (ksel : BitVec 2) (nr : BitVec 5) :
    encode (.desDec ksel nr) = 0x61#32 ||| ksel.setWidth 32 <<< 14 ||| nr.setWidth 32 <<< 16 := by
  simp [encode, opcode, packWord_ascending]

open Machine

/-- A line with a round count: its word if the count is in range. -/
theorem asmRounds_map {nr : Nat} {f : BitVec 5 → Word} {v : Word} (h : nr ≤ 16 → f (BitVec.ofNat 5 nr) = v) :
    (asmRounds (some nr)).map f = if 1 ≤ nr ∧ nr ≤ 16 then some v else none := by
  rw [asmRounds, Option.getD_some]
  split
  · next hnr => rw [Option.map_some, h hnr.2]
  · rfl

theorem setWidth_ofNat_key (key : Fin 3) : (BitVec.ofNat 2 key.val).setWidth 32 = BitVec.ofNat 32 key.val :=
  BitVec.setWidth_ofNat_of_le_of_lt (by decide) (Nat.lt_succ_of_lt key.isLt)

theorem setWidth_ofNat_rounds {nr : Nat} (h : nr ≤ 16) : (BitVec.ofNat 5 nr).setWidth 32 = BitVec.ofNat 32 nr :=
  BitVec.setWidth_ofNat_of_le_of_lt (by decide) (by omega)

section
variable (i : Nat) (key : Fin 3) (dir : Dir) (nr : Nat)

theorem assembleOp_aesArk :
    assembleOp (.aesArk i) = if i ≤ 10 then some (0x16#32 ||| BitVec.ofNat 32 i <<< 8) else none :=
  ite_congr rfl (fun hi => by rw [encode_aesArk, BitVec.setWidth_ofNat_of_le_of_lt (by decide) (by omega)]) fun _ => rfl

theorem assembleOp_desRound :
    assembleOp (.desRound i) = if i ≤ 15 then some (0x43#32 ||| BitVec.ofNat 32 i <<< 8) else none :=
  ite_congr rfl (fun hi => by rw [encode_desRound, BitVec.setWidth_ofNat_of_le_of_lt (by decide) (by omega)]) fun _ => rfl

theorem assembleOp_desKeyexp : assembleOp (.desKeyexp key dir (some nr)) =
    if 1 ≤ nr ∧ nr ≤ 16 then
      some (0x50#32 ||| dir.bit.setWidth 32 <<< 12 ||| BitVec.ofNat 32 key.val <<< 14 ||| BitVec.ofNat 32 nr <<< 16)
    else none :=
  asmRounds_map fun h => by rw [encode_desKeyexp, setWidth_ofNat_key, setWidth_ofNat_rounds h]

theorem assembleOp_desEnc : assembleOp (.desEnc key (some nr)) =
    if 1 ≤ nr ∧ nr ≤ 16 then some (0x60#32 ||| BitVec.ofNat 32 key.val <<< 14 ||| BitVec.ofNat 32 nr <<< 16)
    else none :=
  asmRounds_map fun h => by rw [encode_desEnc, setWidth_ofNat_key, setWidth_ofNat_rounds h]

theorem assembleOp_desDec : assembleOp (.desDec key (some nr)) =
    if 1 ≤ nr ∧ nr ≤ 16 then some (0x61#32 ||| BitVec.ofNat 32 key.val <<< 14 ||| BitVec.ofNat 32 nr <<< 16)
    else none :=
  asmRounds_map fun h => by rw [encode_desDec, setWidth_ofNat_key, setWidth_ofNat_rounds h]

end

/-- Settles O5: the lines without a number by evaluation, the others by the word of their command. -/
theorem assemblerLinesGiveTheirWords : Obligations.AssemblerLinesGiveTheirWords :=
  ⟨rfl, rfl, assembleOp_aesArk, rfl, rfl, rfl, rfl, rfl, rfl, rfl, assembleOp_desRound, assembleOp_desKeyexp,
    assembleOp_desEnc, assembleOp_desDec, fun _ _ => ⟨rfl, rfl, rfl⟩, rfl, rfl, rfl, rfl, fun _ => rfl⟩

end Sys2Proof
end

section
/-! SUPPORT. GF(2^8) arithmetic (40_aes_round.md R100 to R103): `gfmul` is linear over XOR in each factor, and two such
functions are equal as soon as they agree on the eight bytes of one bit. Commutativity and associativity follow from the
products of those bytes. The S-box tables are then the field inverse and the affine step (R104 to R106). -/

namespace Sys2Proof.Machine

/-! ## Linearity over XOR -/

/-- A property of the values of one bit that XOR keeps holds of every value. -/
theorem bitVec_xor_induction {w : Nat} {P : BitVec w → Prop} (zero : P 0#w)
    (bit : ∀ i < w, P (BitVec.twoPow w i)) (xor : ∀ a b, P a → P b → P (a ^^^ b)) (x : BitVec w) : P x := by
  have belowBit : ∀ n ≤ w, ∀ y : BitVec w, (∀ i, n ≤ i → y.getLsbD i = false) → P y := by
    intro n
    induction n with
    | zero =>
      intro _ y hy
      rwa [BitVec.eq_of_getLsbD_eq fun i _ => (hy i (Nat.zero_le i)).trans BitVec.getLsbD_zero.symm]
    | succ n ih =>
      intro hn y hy
      by_cases hbit : y.getLsbD n = true
      · rw [← BitVec.xor_zero (x := y), ← BitVec.xor_self (x := BitVec.twoPow w n), ← BitVec.xor_assoc]
        refine xor _ _ (ih (by omega) _ fun i hi => ?_) (bit n hn)
        rw [BitVec.getLsbD_xor, BitVec.getLsbD_twoPow]
        rcases Nat.eq_or_lt_of_le hi with rfl | hlt
        · simp [hbit, Nat.lt_of_succ_le hn]
        · simp [hy i hlt, Nat.ne_of_lt hlt]
      · refine ih (by omega) y fun i hi => ?_
        rcases Nat.eq_or_lt_of_le hi with rfl | hlt
        · exact Bool.eq_false_iff.mpr hbit
        · exact hy i hlt
  exact belowBit w (Nat.le_refl w) x fun i hi => BitVec.getLsbD_of_ge x i hi

/-- The function is linear over XOR. -/
def XorLinear (f : Byte → Byte) : Prop := ∀ a b, f (a ^^^ b) = f a ^^^ f b

theorem XorLinear.map_zero {f : Byte → Byte} (hf : XorLinear f) : f 0#8 = 0#8 := by
  simpa using hf 0#8 0#8

/-- Linear functions that agree on the bytes of one bit are equal. -/
theorem XorLinear.ext {f g : Byte → Byte} (hf : XorLinear f) (hg : XorLinear g)
    (h : ∀ i < 8, f (BitVec.twoPow 8 i) = g (BitVec.twoPow 8 i)) (a : Byte) : f a = g a := by
  induction a using bitVec_xor_induction with
  | zero => rw [hf.map_zero, hg.map_zero]
  | bit i hi => exact h i hi
  | xor a b ha hb => rw [hf, hg, ha, hb]

theorem XorLinear.comp {f g : Byte → Byte} (hf : XorLinear f) (hg : XorLinear g) : XorLinear fun a => f (g a) := by
  intro a b
  simp only [hg a b, hf (g a) (g b)]

/-! ## The product -/

/-- The shift, and 0x1B where the high bit shifts out (R102). -/
theorem xtime_eq (a : Byte) : xtime a = a <<< 1 ^^^ if a.getLsbD 7 then 0x1B#8 else 0x00#8 := by
  rw [xtime]
  split
  · rfl
  · rw [BitVec.xor_zero]

/-- Whether `a` is added, for the XOR of two conditions. -/
theorem ite_xor (p q : Bool) (a : Byte) :
    (if (p ^^ q) then a else 0x00#8) = (if p then a else 0x00#8) ^^^ if q then a else 0x00#8 := by
  cases p <;> cases q <;> simp

theorem xtime_xor : XorLinear xtime := by
  intro a b
  simp only [xtime_eq, BitVec.shiftLeft_xor_distrib, BitVec.getLsbD_xor, ite_xor]
  ac_rfl

/-- One iteration of R101's loop. -/
theorem gfmulLoop_succ (n : Nat) (acc a b : Byte) :
    gfmulLoop (n + 1) acc a b =
      gfmulLoop n (acc ^^^ if b.getLsbD 0 then a else 0x00#8) (xtime a) (b >>> 1) := by
  rw [gfmulLoop]
  split
  · rfl
  · rw [BitVec.xor_zero]

theorem gfmulLoop_xor_left (n : Nat) (acc acc' a a' b : Byte) :
    gfmulLoop n (acc ^^^ acc') (a ^^^ a') b = gfmulLoop n acc a b ^^^ gfmulLoop n acc' a' b := by
  induction n generalizing acc acc' a a' b with
  | zero => rfl
  | succ n ih =>
    simp only [gfmulLoop_succ, xtime_xor a a', ← ih]
    congr 1
    split
    · ac_rfl
    · simp

theorem gfmulLoop_xor_right (n : Nat) (acc acc' a b b' : Byte) :
    gfmulLoop n (acc ^^^ acc') a (b ^^^ b') = gfmulLoop n acc a b ^^^ gfmulLoop n acc' a b' := by
  induction n generalizing acc acc' a b b' with
  | zero => rfl
  | succ n ih =>
    simp only [gfmulLoop_succ, BitVec.ushiftRight_xor_distrib, BitVec.getLsbD_xor, ite_xor, ← ih]
    congr 1
    ac_rfl

theorem gfmul_xor_left (b : Byte) : XorLinear fun a => gfmul a b := by
  intro a a'
  exact gfmulLoop_xor_left 8 0x00#8 0x00#8 a a' b

theorem gfmul_xor_right (a : Byte) : XorLinear (gfmul a) := by
  intro b b'
  exact gfmulLoop_xor_right 8 0x00#8 0x00#8 a b b'

theorem gfmul_comm (a b : Byte) : gfmul a b = gfmul b a := by
  refine XorLinear.ext (gfmul_xor_left b) (gfmul_xor_right b) (fun i hi => ?_) a
  refine XorLinear.ext (gfmul_xor_right _) (gfmul_xor_left _) (fun j hj => ?_) b
  revert i j
  decide +kernel

theorem gfmul_assoc (a b c : Byte) : gfmul (gfmul a b) c = gfmul a (gfmul b c) := by
  refine XorLinear.ext ((gfmul_xor_left c).comp (gfmul_xor_left b)) (gfmul_xor_left _) (fun i hi => ?_) a
  refine XorLinear.ext ((gfmul_xor_left c).comp (gfmul_xor_right _)) ((gfmul_xor_right _).comp (gfmul_xor_left c))
    (fun j hj => ?_) b
  refine XorLinear.ext (gfmul_xor_right _) ((gfmul_xor_right _).comp (gfmul_xor_right _)) (fun k hk => ?_) c
  revert i j k
  decide +kernel

theorem gfmul_zero (a : Byte) : gfmul a 0x00#8 = 0x00#8 := (gfmul_xor_right a).map_zero

theorem gfmul_one (a : Byte) : gfmul a 0x01#8 = a :=
  XorLinear.ext (g := id) (gfmul_xor_left _) (fun _ _ => rfl) (by decide +kernel) a

theorem gfmul_two (a : Byte) : gfmul a 0x02#8 = xtime a :=
  XorLinear.ext (gfmul_xor_left _) xtime_xor (by decide +kernel) a

theorem gfmul_three (a : Byte) : gfmul a 0x03#8 = xtime a ^^^ a := by
  calc gfmul a (0x02#8 ^^^ 0x01#8) = gfmul a 0x02#8 ^^^ gfmul a 0x01#8 := gfmul_xor_right a _ _
    _ = xtime a ^^^ a := by rw [gfmul_two, gfmul_one]

theorem one_gfmul (a : Byte) : gfmul 0x01#8 a = a := (gfmul_comm _ a).trans (gfmul_one a)

theorem zero_gfmul (a : Byte) : gfmul 0x00#8 a = 0x00#8 := (gfmul_comm _ a).trans (gfmul_zero a)

/-- Settles O19: each consequence by linearity from the products of the bytes of one bit. -/
theorem gfmulConsequences : Obligations.GfmulConsequences :=
  ⟨fun a => ⟨gfmul_one a, gfmul_zero a⟩, gfmul_comm, fun a => ⟨gfmul_two a, xtime_eq a⟩, gfmul_three,
    by decide, by decide⟩

/-! ## The S-box (R104 to R106) -/

theorem invSbox_sbox : ∀ x : Byte, invSbox (sbox x) = x := by decide +kernel

theorem sbox_invSbox : ∀ y : Byte, sbox (invSbox y) = y := by decide +kernel

theorem sboxAffine_invSboxAffine : ∀ y : Byte, sboxAffine (invSboxAffine y) = y := by decide +kernel

theorem invSboxAffine_sboxAffine : ∀ y : Byte, invSboxAffine (sboxAffine y) = y := by decide +kernel

/-- The table's entry, freed of the affine step, is the inverse in the field. -/
theorem gfmul_invSboxAffine_sbox : ∀ x : Byte, x ≠ 0x00#8 → gfmul x (invSboxAffine (sbox x)) = 0x01#8 := by
  decide +kernel

theorem invSboxAffine_sbox_zero : invSboxAffine (sbox 0x00#8) = 0x00#8 := by decide

/-- Settles O20: both directions speak of the pair `x`, `sbox x`, whose field inverse is read off the table. -/
theorem sboxIsInversionThenAffine : Obligations.SboxIsInversionThenAffine := by
  refine ⟨by decide, fun x hx => ?sbox, fun y => ⟨sboxAffine_invSboxAffine y, invSboxAffine_sboxAffine y⟩,
    fun y => ?inv⟩
  case sbox => exact ⟨_, gfmul_invSboxAffine_sbox x hx, (sboxAffine_invSboxAffine (sbox x)).symm⟩
  case inv =>
    obtain ⟨x, rfl⟩ : ∃ x, sbox x = y := ⟨_, sbox_invSbox y⟩
    rw [invSbox_sbox]
    rcases Decidable.em (x = 0x00#8) with rfl | hx
    · exact .inl ⟨invSboxAffine_sbox_zero, rfl⟩
    · exact .inr ((gfmul_comm _ x).trans (gfmul_invSboxAffine_sbox x hx))

end Sys2Proof.Machine
end

section
/-! SUPPORT. The AES block functions (40_aes_round.md R111 to R119): the byte of row r and column c of each result, and the
properties of R119 that follow from it. -/

namespace Sys2Proof.Machine

/-! ## Rows and columns (00_scope.md R12, 10_state.md R21) -/

/-- A block is determined by its bytes, row r of column c being byte `4c + r`. -/
theorem eq_of_column_byteAt_eq {a b : Block}
    (h : ∀ c r, c < 4 → r < 4 → byteAt a (4 * c + r) = byteAt b (4 * c + r)) : a = b := by
  refine eq_of_byteAt_eq fun i hi => ?_
  have e := h (i / 4) (i % 4) (by omega) (by omega)
  rwa [Nat.div_add_mod] at e

section
variable (v : Block) {c r : Nat} (hc : c < 4) (hr : r < 4)
include hc hr

/-- Row r is rotated left by r (R107). -/
theorem byteAt_shiftRows_column : byteAt (shiftRows v) (4 * c + r) = byteAt v (4 * ((c + r) % 4) + r) := by
  have table : ∀ c < 4, ∀ r < 4, shiftTable.getD (4 * c + r) 0 = 4 * ((c + r) % 4) + r := by decide
  rw [byteAt_shiftRows v _ (by omega), table c hc r hr]

/-- Row r is rotated right by r (R108). -/
theorem byteAt_invShiftRows_column :
    byteAt (invShiftRows v) (4 * c + r) = byteAt v (4 * ((c + 4 - r) % 4) + r) := by
  have table : ∀ c < 4, ∀ r < 4, invShiftTable.getD (4 * c + r) 0 = 4 * ((c + 4 - r) % 4) + r := by decide
  rw [byteAt_invShiftRows v _ (by omega), table c hc r hr]

/-- A byte of the result is a byte of the matrix's product with the column (R116, R117). -/
theorem byteAt_mixWith_column (x : List (List Byte)) :
    byteAt (mixWith x v) (4 * c + r) = mixCol (fun k => byteAt v (4 * c + k)) x r := by
  have hcol : (4 * c + r) / 4 = c := by omega
  have hrow : (4 * c + r) % 4 = r := by omega
  rw [byteAt_mixWith x v _ (by omega), hcol, hrow]

end

/-! ## SubBytes and ShiftRows -/

theorem invSubBytes_subBytes (s : Block) : invSubBytes (subBytes s) = s :=
  eq_of_byteAt_eq fun i hi => by rw [byteAt_invSubBytes _ i hi, byteAt_subBytes s i hi, invSbox_sbox]

theorem invShiftRows_shiftRows (s : Block) : invShiftRows (shiftRows s) = s := by
  refine eq_of_column_byteAt_eq fun c r hc hr => ?_
  have hcol : ((c + 4 - r) % 4 + r) % 4 = c := by omega
  rw [byteAt_invShiftRows_column _ hc hr, byteAt_shiftRows_column s (Nat.mod_lt _ (by decide)) hr, hcol]

/-- Each row has come full circle (R122). -/
theorem shiftRows_four_times (s : Block) : shiftRows (shiftRows (shiftRows (shiftRows s))) = s := by
  refine eq_of_column_byteAt_eq fun c r hc hr => ?_
  have hcol : ((((c + r) % 4 + r) % 4 + r) % 4 + r) % 4 = c := by omega
  rw [byteAt_shiftRows_column _ hc hr, byteAt_shiftRows_column _ (Nat.mod_lt _ (by decide)) hr,
    byteAt_shiftRows_column _ (Nat.mod_lt _ (by decide)) hr,
    byteAt_shiftRows_column _ (Nat.mod_lt _ (by decide)) hr, hcol]

theorem shiftRows_of_constant_rows {v : Block} (h : ∀ c r, c < 4 → r < 4 → byteAt v (4 * c + r) = byteAt v r) :
    shiftRows v = v :=
  eq_of_column_byteAt_eq fun c r hc hr => by
    rw [byteAt_shiftRows_column v hc hr, h _ r (Nat.mod_lt _ (by decide)) hr, h c r hc hr]

/-- Substituting and moving bytes commute (R119). -/
theorem shiftRows_subBytes (s : Block) : shiftRows (subBytes s) = subBytes (shiftRows s) :=
  eq_of_column_byteAt_eq fun c r hc hr => by
    rw [byteAt_shiftRows_column _ hc hr, byteAt_subBytes _ _ (by omega), byteAt_subBytes _ _ (by omega),
      byteAt_shiftRows_column s hc hr]

theorem invShiftRows_invSubBytes (s : Block) : invShiftRows (invSubBytes s) = invSubBytes (invShiftRows s) :=
  eq_of_column_byteAt_eq fun c r hc hr => by
    rw [byteAt_invShiftRows_column _ hc hr, byteAt_invSubBytes _ _ (by omega), byteAt_invSubBytes _ _ (by omega),
      byteAt_invShiftRows_column s hc hr]

/-! ## Matrix products of columns -/

section
variable (col : Nat → Byte) (x y : List (List Byte)) (r : Nat)

/-- Only the column's four bytes count. -/
theorem mixCol_congr {col col' : Nat → Byte} (h : ∀ k < 4, col k = col' k) : mixCol col x r = mixCol col' x r := by
  simp only [mixCol, h, Nat.reduceLT]

theorem mixCol_xor (col' : Nat → Byte) :
    mixCol (fun k => col k ^^^ col' k) x r = mixCol col x r ^^^ mixCol col' x r := by
  simp only [mixCol, gfmul_xor_right _ _ _]
  ac_rfl

/-- A column of equal bytes is multiplied by the sum of the matrix's row. -/
theorem mixCol_constant (b : Byte) : mixCol (fun _ => b) x r = gfmul (mixCol (fun _ => 0x01#8) x r) b := by
  simp only [mixCol, gfmul_xor_left _ _ _, gfmul_one]

/-- The product of two matrices: column j of `y · x` is `y` times column j of `x`. -/
theorem mixCol_mixCol :
    mixCol (mixCol col x) y r =
      gfmul (mixCol (fun k => matrixAt x k 0) y r) (col 0) ^^^ gfmul (mixCol (fun k => matrixAt x k 1) y r) (col 1)
        ^^^ gfmul (mixCol (fun k => matrixAt x k 2) y r) (col 2)
        ^^^ gfmul (mixCol (fun k => matrixAt x k 3) y r) (col 3) := by
  simp only [mixCol, gfmul_xor_right _ _ _, gfmul_xor_left _ _ _, gfmul_assoc]
  ac_rfl

variable {r}

/-- The four products, from the row's own byte downwards and round again. -/
theorem mixCol_from_row (hr : r < 4) :
    mixCol col x r =
      gfmul (matrixAt x r r) (col r) ^^^ gfmul (matrixAt x r ((r + 1) % 4)) (col ((r + 1) % 4))
        ^^^ gfmul (matrixAt x r ((r + 2) % 4)) (col ((r + 2) % 4))
        ^^^ gfmul (matrixAt x r ((r + 3) % 4)) (col ((r + 3) % 4)) := by
  unfold mixCol
  match r with
  | 0 => rfl
  | 1 | 2 | 3 => simp only [Nat.reduceAdd, Nat.reduceMod]; ac_rfl

end

/-! ## MixColumns -/

theorem mixWith_xor (x : List (List Byte)) (a b : Block) : mixWith x (a ^^^ b) = mixWith x a ^^^ mixWith x b :=
  eq_of_column_byteAt_eq fun c r hc hr => by
    simp only [byteAt_xor, byteAt_mixWith_column _ hc hr, mixCol_xor]

/-- M's rows are one row, each rotated right by its number (R109). -/
theorem mixMatrix_rows : ∀ r < 4, matrixAt mixMatrix r r = 0x02#8 ∧ matrixAt mixMatrix r ((r + 1) % 4) = 0x03#8 ∧
    matrixAt mixMatrix r ((r + 2) % 4) = 0x01#8 ∧ matrixAt mixMatrix r ((r + 3) % 4) = 0x01#8 := by
  decide

/-- So are Minv's (R110). -/
theorem invMixMatrix_rows :
    ∀ r < 4, matrixAt invMixMatrix r r = 0x0E#8 ∧ matrixAt invMixMatrix r ((r + 1) % 4) = 0x0B#8 ∧
    matrixAt invMixMatrix r ((r + 2) % 4) = 0x0D#8 ∧ matrixAt invMixMatrix r ((r + 3) % 4) = 0x09#8 := by
  decide

/-- `Minv · M` is the identity matrix. -/
theorem invMixMatrix_mul_mixMatrix : ∀ r < 4, ∀ j < 4,
    mixCol (fun k => matrixAt mixMatrix k j) invMixMatrix r = if j = r then 0x01#8 else 0x00#8 := by
  decide

theorem mixMatrix_row_sum : ∀ r < 4, mixCol (fun _ => 0x01#8) mixMatrix r = 0x01#8 := by decide

theorem invMixMatrix_row_sum : ∀ r < 4, mixCol (fun _ => 0x01#8) invMixMatrix r = 0x01#8 := by decide

section
variable (v : Block) {c r : Nat} (hc : c < 4) (hr : r < 4)
include hc hr

theorem byteAt_mixColumns : byteAt (mixColumns v) (4 * c + r) =
    gfmul 0x02#8 (byteAt v (4 * c + r)) ^^^ gfmul 0x03#8 (byteAt v (4 * c + (r + 1) % 4))
      ^^^ byteAt v (4 * c + (r + 2) % 4) ^^^ byteAt v (4 * c + (r + 3) % 4) := by
  obtain ⟨h0, h1, h2, h3⟩ := mixMatrix_rows r hr
  rw [mixColumns, byteAt_mixWith_column v hc hr, mixCol_from_row _ _ hr, h0, h1, h2, h3, one_gfmul, one_gfmul]

theorem byteAt_invMixColumns : byteAt (invMixColumns v) (4 * c + r) =
    gfmul 0x0E#8 (byteAt v (4 * c + r)) ^^^ gfmul 0x0B#8 (byteAt v (4 * c + (r + 1) % 4))
      ^^^ gfmul 0x0D#8 (byteAt v (4 * c + (r + 2) % 4)) ^^^ gfmul 0x09#8 (byteAt v (4 * c + (r + 3) % 4)) := by
  obtain ⟨h0, h1, h2, h3⟩ := invMixMatrix_rows r hr
  rw [invMixColumns, byteAt_mixWith_column v hc hr, mixCol_from_row _ _ hr, h0, h1, h2, h3]

/-- A matrix whose rows each sum to 01 leaves a column of four equal bytes as it is. -/
theorem byteAt_mixWith_of_constant_column {x : List (List Byte)}
    (hsum : ∀ r < 4, mixCol (fun _ => 0x01#8) x r = 0x01#8)
    (h : ∀ r, r < 4 → byteAt v (4 * c + r) = byteAt v (4 * c)) :
    byteAt (mixWith x v) (4 * c + r) = byteAt v (4 * c + r) := by
  calc byteAt (mixWith x v) (4 * c + r) = mixCol (fun _ => byteAt v (4 * c)) x r := by
        rw [byteAt_mixWith_column v hc hr, mixCol_congr _ _ h]
    _ = byteAt v (4 * c + r) := by rw [mixCol_constant, hsum r hr, one_gfmul, h r hr]

end

/-- Each byte of a column comes back, as Minv times M is the identity (R119). -/
theorem invMixColumns_mixColumns (s : Block) : invMixColumns (mixColumns s) = s := by
  refine eq_of_column_byteAt_eq fun c r hc hr => ?_
  calc byteAt (invMixColumns (mixColumns s)) (4 * c + r)
      = mixCol (mixCol (fun k => byteAt s (4 * c + k)) mixMatrix) invMixMatrix r := by
        rw [invMixColumns, byteAt_mixWith_column _ hc hr]
        exact mixCol_congr _ _ fun k hk => byteAt_mixWith_column s hc hk mixMatrix
    _ = byteAt s (4 * c + r) := by
        rw [mixCol_mixCol]
        simp only [invMixMatrix_mul_mixMatrix r hr, Nat.reduceLT]
        match r with
        | 0 | 1 | 2 | 3 => simp [one_gfmul, zero_gfmul]

/-- Settles O21, each property by the bytes of the results. -/
theorem aesBlockFunctionProperties : Obligations.AesBlockFunctionProperties :=
  ⟨invSbox_sbox, invMixColumns_mixColumns, addRoundKey_addRoundKey, invShiftRows_shiftRows, shiftRows_subBytes,
    invShiftRows_invSubBytes, mixWith_xor mixMatrix, mixWith_xor invMixMatrix⟩

end Sys2Proof.Machine
end

section
/-! SUPPORT. The commands of the AES round engine (40_aes_round.md R120 to R126): each command's whole effect, from
its semantics, and the statements about the commands. -/

namespace Sys2Proof

theorem opcOf_encode (i : Instr) : opcOf (encode i) = opcode i := by
  cases i <;> simp [encode, opcode, fields_packWord]

open Machine in
/-- A word with an opcode of which no command has that word is illegal (30_encoding.md R86, R89). -/
theorem illegalEffect_of_ne_encode {w : Word} (h : ∀ i, opcode i = opcOf w → w ≠ encode i) : IllegalEffect w := by
  intro s
  cases hd : decode w with
  | illegal e => exact runCommandWord_illegal s hd
  | ok i =>
    obtain ⟨rfl, _⟩ := encodeOfDecodeIsTheWord w i hd
    exact absurd rfl (h i (opcOf_encode i).symm)

end Sys2Proof

namespace Sys2Proof.Machine

/-- A command whose checks pass (60_exceptions.md R302). -/
theorem exec_of_check_ok {i : Instr} {s : State} (hc : commandCheck i s = .ok) :
    exec i s = .next (succeed (semantics i s)) := by
  rw [exec_eq, runChecked_of_ok _ hc]

/-- A sequence whose first command's checks pass. -/
theorem execAll_cons_of_check_ok {i : Instr} {s : State} (hc : commandCheck i s = .ok) (is : List Instr) :
    execAll (i :: is) s = execAll is (succeed (semantics i s)) := by
  rw [execAll, exec_of_check_ok hc]

/-- Settles O12: each byte by the S-box, and no other command has the opcode. -/
theorem aesSubSubstitutesEveryByte : Obligations.AesSubSubstitutesEveryByte := by
  refine ⟨rfl, fun w hopc hne => illegalEffect_of_ne_encode fun i hi => ?_, fun s => exec_of_check_ok rfl,
    byteAt_subBytes, by decide, by decide⟩
  rw [hopc] at hi
  cases i with
  | aesSub => exact hne
  | _ => simp [opcode] at hi

/-- Settles O13: each byte by the inverse S-box, which undoes the S-box. -/
theorem aesInvsubSubstitutesEveryByteBack : Obligations.AesInvsubSubstitutesEveryByteBack :=
  ⟨rfl, fun _ => exec_of_check_ok rfl, byteAt_invSubBytes, fun s => ⟨_, rfl, invSubBytes_subBytes s.aesState⟩,
    by decide, by decide⟩

/-- Settles O14: the shift table is the rotation, and four rotations by r are none. -/
theorem aesShiftRotatesRowsLeft : Obligations.AesShiftRotatesRowsLeft :=
  ⟨rfl, fun _ => exec_of_check_ok rfl, fun v _ _ => byteAt_shiftRows_column v,
    fun s => ⟨_, rfl, shiftRows_four_times s.aesState⟩, fun _ => shiftRows_of_constant_rows, by decide⟩

/-- Settles O15: the inverse shift table is the rotation back. -/
theorem aesInvshiftRotatesRowsRight : Obligations.AesInvshiftRotatesRowsRight :=
  ⟨rfl, fun _ => exec_of_check_ok rfl, fun v _ _ => byteAt_invShiftRows_column v,
    fun s => ⟨_, rfl, invShiftRows_shiftRows s.aesState⟩, by decide⟩

/-- Settles O16: the four products of a byte's own column, and rows that sum to 01. -/
theorem aesMixMultipliesColumns : Obligations.AesMixMultipliesColumns :=
  ⟨rfl, fun _ => exec_of_check_ok rfl, fun v _ _ => byteAt_mixColumns v,
    fun v _ hc h _ hr => byteAt_mixWith_of_constant_column v hc hr mixMatrix_row_sum h, by decide, by decide⟩

/-- Settles O17: the four products of a byte's own column, rows that sum to 01, and the inverse of M. -/
theorem aesInvmixMultipliesColumnsBack : Obligations.AesInvmixMultipliesColumnsBack :=
  ⟨rfl, fun _ => exec_of_check_ok rfl, fun v _ _ => byteAt_invMixColumns v,
    fun s => ⟨_, rfl, invMixColumns_mixColumns s.aesState⟩,
    fun v _ hc h _ hr => byteAt_mixWith_of_constant_column v hc hr invMixMatrix_row_sum h, by decide⟩

/-! ## AES_ARK -/

/-- AES_ARK with a legal index and a schedule (R126). -/
theorem exec_aesArk_scheduled {s : State} {idx : BitVec 4} (hidx : idx.toNat ≤ 10) (hksv : s.aesKsv = true) :
    exec (.aesArk idx) s =
      .next { s with aesState := s.aesState ^^^ roundKey s.aesRk idx.toNat, err := 0x0#4 } :=
  exec_of_check_ok ((arkCheck_eq_ok idx s).mpr ⟨hidx, hksv⟩)

/-- AES_ARK with an index that has no round key, wherever it comes from (60_exceptions.md R303). -/
theorem exec_aesArk_illegal {idx : BitVec 4} (hidx : 11 ≤ idx.toNat) (s : State) :
    exec (.aesArk idx) s = .next { s with err := 0x4#4 } :=
  exec_of_check_eq (code := .illegalCommand) (if_pos hidx) (by decide)

/-- Its word is illegal (30_encoding.md R89). -/
theorem illegalEffect_aesArk {idx : BitVec 4} (hidx : 11 ≤ idx.toNat) : IllegalEffect (encode (.aesArk idx)) :=
  fun s => runCommandWord_illegal s ((decode_encode _).trans (if_pos hidx))

/-- The forward schedule starts with the key itself (41_aes_keysched.md R146). -/
theorem roundKey_keyExpFwd_zero (key : Block) : roundKey (keyExpFwd key) 0 = key :=
  roundKey_keyExpFwd key 0 (by decide)

/-- Settles O18: by the checks of AES_ARK, in their order. -/
theorem aesArkAddsTheIndexedRoundKey : Obligations.AesArkAddsTheIndexedRoundKey := by
  refine ⟨encode_aesArk, fun _ _ => exec_aesArk_scheduled, fun _ _ => exec_aesArk_unscheduled,
    fun _ s hidx => ⟨exec_aesArk_illegal hidx s, illegalEffect_aesArk hidx⟩, rfl, fun j v s t hj h => ?keyWrite,
    fun idx s hidx hksv => ?twice, fun s hksv hrk => ?forward, ?vector⟩
  case keyWrite =>
    cases (hostWrite_ofNat (r := .aesKey ⟨j, hj⟩) rfl (by simp) v s).symm.trans h
    rfl
  case twice =>
    have first : commandCheck (.aesArk idx) s = .ok := (arkCheck_eq_ok idx s).mpr ⟨hidx, hksv⟩
    have second : commandCheck (.aesArk idx) (succeed (semantics (.aesArk idx) s)) = .ok := first
    exact ⟨_, (execAll_cons_of_check_ok first _).trans (execAll_cons_of_check_ok second _),
      addRoundKey_addRoundKey s.aesState _⟩
  case forward => rw [exec_aesArk_scheduled (by decide) hksv, hrk, BitVec.toNat_zero, roundKey_keyExpFwd_zero]
  case vector =>
    rw [roundKey_keyExpFwd_zero]
    decide

end Sys2Proof.Machine
end

section
/-! SUPPORT. The AES key scheduler (41_aes_keysched.md R141 to R150): the bytes of RotWord and g, the words of the next
round key, the entries of both sequences, and the statements about AES_KEYEXP. -/

namespace Sys2Proof.Machine

/-! ## Bytes of a word (00_scope.md R12) -/

section
variable (w : Word) {j k : Nat}

theorem getLsbD_wordByte (hk : k < 8) : (wordByte w j).getLsbD k = w.getLsbD (24 - 8 * j + k) := by
  simp [wordByte, hk]

/-- A word is determined by its four bytes. -/
theorem eq_of_wordByte_eq {a b : Word} (h : ∀ j, j < 4 → wordByte a j = wordByte b j) : a = b := by
  apply BitVec.eq_of_getLsbD_eq
  intro k hk
  have e := congrArg (fun x : Byte => x.getLsbD (k % 8)) (h (3 - k / 8) (by omega))
  have hk' : 24 - 8 * (3 - k / 8) + k % 8 = k := by omega
  simpa only [getLsbD_wordByte _ (Nat.mod_lt k (by decide : 0 < 8)), hk'] using e

theorem wordByte_xor (v : Word) (j : Nat) : wordByte (w ^^^ v) j = wordByte w j ^^^ wordByte v j :=
  BitVec.extractLsb'_xor

/-- The rotation takes byte 0 round to byte 3 and moves every other byte up. -/
theorem wordByte_rotateLeft (hj : j < 4) : wordByte (w.rotateLeft 8) j = wordByte w ((j + 1) % 4) := by
  apply BitVec.eq_of_getLsbD_eq
  intro k hk
  rw [getLsbD_wordByte _ hk, getLsbD_wordByte _ hk, BitVec.getLsbD_rotateLeft]
  obtain rfl | hj3 : j = 3 ∨ j < 3 := by omega
  · simp [hk]
  · have hpos : 24 - 8 * ((j + 1) % 4) + k = 24 - 8 * j + k - 8 := by omega
    have hlo : ¬ 24 - 8 * j + k < 8 := by omega
    have hhi : 24 - 8 * j + k < 32 := by omega
    simp [hpos, hlo, hhi]

/-! ## RotWord and g (R141, R144) -/

theorem wordByte_rotWord (hj : j < 4) : wordByte (rotWord w) j = wordByte w ((j + 1) % 4) :=
  wordByte_ofWordBytes _ j hj

theorem wordByte_subWord (hj : j < 4) : wordByte (subWord w) j = sbox (wordByte w j) :=
  wordByte_ofWordBytes _ j hj

theorem rotWord_eq_rotateLeft : rotWord w = w.rotateLeft 8 :=
  eq_of_wordByte_eq fun _ hj => (wordByte_rotWord w hj).trans (wordByte_rotateLeft w hj).symm

theorem wordByte_keyG (i : Nat) (hj : j < 4) :
    wordByte (keyG w i) j =
      sbox (wordByte w ((j + 1) % 4)) ^^^ if j = 0 then roundConstants.getD i 0#8 else 0#8 := by
  rw [keyG, wordByte_xor, wordByte_subWord _ hj, wordByte_rotWord w hj, wordByte_ofWordBytes _ j hj]

end

/-! ## The next round key (R145) -/

section
variable (p : Block) (i : Nat)

theorem wordAt_nextKey_zero : wordAt (nextKey p i) 0 = keyG (wordAt p 3) i ^^^ wordAt p 0 :=
  (wordAt_joinWords ..).1

theorem wordAt_nextKey_succ {j : Nat} (hj : j < 3) :
    wordAt (nextKey p i) (j + 1) = wordAt p (j + 1) ^^^ wordAt (nextKey p i) j := by
  obtain ⟨h0, h1, h2, h3⟩ : wordAt (nextKey p i) 0 = _ ∧ wordAt (nextKey p i) 1 = _ ∧
    wordAt (nextKey p i) 2 = _ ∧ wordAt (nextKey p i) 3 = _ := wordAt_joinWords ..
  match j with
  | 0 => rw [h0]; exact h1
  | 1 => rw [h1]; exact h2
  | 2 => rw [h2]; exact h3

end

/-- Settles O22: byte by byte through RotWord and SubWord, where RC meets byte 0 alone, and word by word. -/
theorem nextRoundKeyWordByWord : Obligations.NextRoundKeyWordByWord := by
  refine ⟨fun w => ⟨rotWord_eq_rotateLeft w, fun _ => wordByte_rotWord w⟩, fun w i j _ hj => ?gBytes,
    fun p i _ => ⟨wordAt_nextKey_zero p i, fun _ => wordAt_nextKey_succ p i⟩⟩
  rw [wordByte_keyG w i hj]
  split
  case isTrue h0 => rw [h0]
  case isFalse => exact BitVec.xor_zero

/-! ## The two sequences (R146, R147) -/

section
variable (key : Block)

theorem roundKey_keyExpFwd_succ {i : Nat} (hi : i < 10) :
    roundKey (keyExpFwd key) (i + 1) = nextKey (roundKey (keyExpFwd key) i) i := by
  rw [roundKey_keyExpFwd key (i + 1) (by omega), roundKey_keyExpFwd key i (by omega), forwardKey]

theorem roundKey_keyExpDec_zero : roundKey (keyExpDec key) 0 = roundKey (keyExpFwd key) 10 := by
  rw [roundKey_keyExpDec key 0 (by decide), if_pos rfl, roundKey_keyExpFwd key 10 (by decide)]

theorem roundKey_keyExpDec_ten : roundKey (keyExpDec key) 10 = roundKey (keyExpFwd key) 0 := by
  rw [roundKey_keyExpDec key 10 (by decide), if_neg (by decide), if_pos rfl,
    roundKey_keyExpFwd key 0 (by decide)]

/-- Between its ends the decryption sequence is the forward one reversed, through InvMixColumns. -/
theorem roundKey_keyExpDec_inner {k : Nat} (h1 : 1 ≤ k) (h9 : k ≤ 9) :
    roundKey (keyExpDec key) k = invMixColumns (roundKey (keyExpFwd key) (10 - k)) := by
  rw [roundKey_keyExpDec key k (by omega), if_neg (by omega), if_neg (by omega),
    roundKey_keyExpFwd key (10 - k) (by omega)]

end

/-! ## AES_KEYEXP (R149) -/

/-- AES_KEYEXP has no check that can fail (60_exceptions.md R303). -/
theorem exec_aesKeyexp (dir : Dir) (s : State) :
    exec (.aesKeyexp dir) s = .next (succeed (writeAesSchedule dir s)) :=
  exec_of_check_ok rfl

/-- A word of AES_KEYEXP's opcode is one of its two words or illegal (30_encoding.md R86, R89). -/
theorem illegalEffect_of_opcOf_aesKeyexp {w : Word} (hopc : opcOf w = 0x20#8) (henc : w ≠ 0x00000020#32)
    (hdec : w ≠ 0x00001020#32) : IllegalEffect w := by
  refine illegalEffect_of_ne_encode fun i hi => ?_
  rw [hopc] at hi
  cases i with
  | aesKeyexp dir =>
    cases dir with
    | enc => exact henc
    | dec => exact hdec
  | _ => simp [opcode] at hi

/-- Only AES_KEY counts, so what an earlier expansion left does not (R149). -/
theorem exec_aesKeyexp_of_expanded (dir dir' : Dir) (s : State) :
    exec (.aesKeyexp dir) (succeed (writeAesSchedule dir' s)) = exec (.aesKeyexp dir) s := by
  rw [exec_aesKeyexp, exec_aesKeyexp]
  rfl

/-- Settles O23: the command's one outcome, and the entries of the two sequences. -/
theorem aesKeyexpWritesTheSchedule : Obligations.AesKeyexpWritesTheSchedule := by
  refine ⟨rfl, rfl, fun _ => illegalEffect_of_opcOf_aesKeyexp, exec_aesKeyexp,
    fun key => ⟨roundKey_keyExpFwd_zero key, fun _ => roundKey_keyExpFwd_succ key⟩,
    fun key => ⟨roundKey_keyExpDec_zero key, roundKey_keyExpDec_ten key, fun _ => roundKey_keyExpDec_inner key⟩,
    fun dir s t h => ?twice,
    fun s => (execAll_cons_of_check_ok rfl _).trans (exec_aesKeyexp_of_expanded .enc .dec s),
    by decide +kernel, by decide +kernel, by decide +kernel, by decide +kernel⟩
  cases (exec_aesKeyexp dir s).symm.trans h
  exact (exec_aesKeyexp_of_expanded dir dir s).trans h

/-! ## The properties of the schedules (R150) -/

/-- A matrix undoes another when their product is the identity matrix. -/
theorem mixWith_mixWith_of_mul_eq_one {x y : List (List Byte)}
    (hmul : ∀ r < 4, ∀ j < 4, mixCol (fun k => matrixAt x k j) y r = if j = r then 0x01#8 else 0x00#8)
    (s : Block) : mixWith y (mixWith x s) = s := by
  refine eq_of_column_byteAt_eq fun c r hc hr => ?_
  have hcol : byteAt (mixWith y (mixWith x s)) (4 * c + r) =
      mixCol (mixCol (fun k => byteAt s (4 * c + k)) x) y r :=
    (byteAt_mixWith_column _ hc hr y).trans (mixCol_congr _ _ fun k hk => byteAt_mixWith_column s hc hk x)
  rw [hcol, mixCol_mixCol, hmul r hr 0 (by decide), hmul r hr 1 (by decide), hmul r hr 2 (by decide),
    hmul r hr 3 (by decide)]
  match r with
  | 0 | 1 | 2 | 3 =>
    simp only [Nat.reduceEqDiff, reduceIte, one_gfmul, zero_gfmul, BitVec.xor_zero, BitVec.zero_xor]

/-- `M · Minv` is the identity matrix. -/
theorem mixMatrix_mul_invMixMatrix : ∀ r < 4, ∀ j < 4,
    mixCol (fun k => matrixAt invMixMatrix k j) mixMatrix r = if j = r then 0x01#8 else 0x00#8 := by
  decide

theorem mixColumns_invMixColumns (s : Block) : mixColumns (invMixColumns s) = s :=
  mixWith_mixWith_of_mul_eq_one mixMatrix_mul_invMixMatrix s

/-- Settles O24: by the entries of the two sequences. -/
theorem aesScheduleProperties : Obligations.AesScheduleProperties := fun key =>
  ⟨Vector.length_toList, Vector.length_toList, roundKey_keyExpFwd_zero key, roundKey_keyExpDec_zero key,
    (roundKey_keyExpDec_ten key).trans (roundKey_keyExpFwd_zero key), fun k h1 h9 =>
    have hk := roundKey_keyExpDec_inner key h1 h9
    ⟨hk, by rw [hk, mixColumns_invMixColumns]⟩⟩

end Sys2Proof.Machine
end

section
/-! SUPPORT. The AES cipher (42_aes_cipher.md R160 to R166): the decryption rounds take back the encryption rounds, last
one first; the commands of a round leave what the round of the cipher leaves; and the statements about AES_ENC and
AES_DEC. -/

namespace Sys2Proof.Machine

/-! ## Decryption undoes encryption (R166) -/

section
variable (key s : Block)

theorem invShiftRows_invSubBytes_shiftRows_subBytes : invShiftRows (invSubBytes (shiftRows (subBytes s))) = s := by
  rw [shiftRows_subBytes, invSubBytes_subBytes, invShiftRows_shiftRows]

theorem invMixColumns_addRoundKey (k : Block) :
    invMixColumns (addRoundKey s k) = addRoundKey (invMixColumns s) (invMixColumns k) :=
  mixWith_xor invMixMatrix s k

/-- Decryption round k takes back encryption round 10 - k: it meets that round's result behind SubBytes and ShiftRows,
and its key went through InvMixColumns (R147) as the block does. -/
theorem invCipherRound_cipherRound {k : Nat} (h1 : 1 ≤ k) (h9 : k ≤ 9) :
    invCipherRound (keyExpDec key) (shiftRows (subBytes (cipherRound (keyExpFwd key) s (10 - k)))) k =
      shiftRows (subBytes s) := by
  rw [invCipherRound, invShiftRows_invSubBytes_shiftRows_subBytes, roundKey_keyExpDec_inner key h1 h9,
    ← invMixColumns_addRoundKey, cipherRound, addRoundKey_addRoundKey, invMixColumns_mixColumns]

/-- Decryption rounds take back the same encryption rounds performed in the opposite order. -/
theorem foldl_invCipherRound_foldl_cipherRound {ks : List Nat} (hks : ∀ k ∈ ks, 1 ≤ k ∧ k ≤ 9) :
    ks.foldl (invCipherRound (keyExpDec key))
        (shiftRows (subBytes ((ks.reverse.map (10 - ·)).foldl (cipherRound (keyExpFwd key)) s))) =
      shiftRows (subBytes s) := by
  induction ks with
  | nil => rfl
  | cons k ks ih =>
    obtain ⟨⟨h1, h9⟩, hrest⟩ := List.forall_mem_cons.mp hks
    rw [List.reverse_cons, List.map_append, List.foldl_append, List.foldl_cons, List.map_singleton,
      List.foldl_cons, List.foldl_nil, invCipherRound_cipherRound key _ h1 h9]
    exact ih hrest

/-- The first and the last round key cancel, and the nine rounds between them take each other back (R166). -/
theorem invCipher_cipher : invCipher (cipher s (keyExpFwd key)) (keyExpDec key) = s := by
  have rounds := foldl_invCipherRound_foldl_cipherRound key (addRoundKey s (roundKey (keyExpFwd key) 0))
    (ks := [1, 2, 3, 4, 5, 6, 7, 8, 9]) (by decide)
  have order : [1, 2, 3, 4, 5, 6, 7, 8, 9].reverse.map (10 - ·) = [1, 2, 3, 4, 5, 6, 7, 8, 9] := rfl
  rw [order] at rounds
  simp only [invCipher, cipher]
  rw [roundKey_keyExpDec_zero, addRoundKey_addRoundKey, rounds, invShiftRows_invSubBytes_shiftRows_subBytes,
    roundKey_keyExpDec_ten, addRoundKey_addRoundKey]

end

/-- Settles O28: the second command meets the first one's result under the same key. -/
theorem aesDecryptsWhatItEncrypts : Obligations.AesDecryptsWhatItEncrypts :=
  ⟨fun p key => invCipher_cipher key p,
    fun s => ⟨_, (execAll_cons_of_check_ok rfl _).trans (execAll_cons_of_check_ok rfl _),
      invCipher_cipher s.aesKey s.aesState⟩⟩

/-! ## AES_ENC and AES_DEC (R162, R163) -/

/-- The source's vector (R162), whose decryption is the source's vector of R163. -/
theorem cipher_sourceVector :
    cipher 0x00112233445566778899aabbccddeeff#128 (keyExpFwd 0x000102030405060708090a0b0c0d0e0f#128) =
      0x69c4e0d86a7b0430d8cdb78070b4c55a#128 := by
  decide +kernel

/-- Settles O25: no check of AES_ENC can fail, so its semantics is its whole effect. -/
theorem aesEncEncryptsTheState : Obligations.AesEncEncryptsTheState :=
  ⟨rfl, fun _ => exec_of_check_ok rfl, by decide +kernel, cipher_sourceVector⟩

/-- Settles O26: no check of AES_DEC can fail, and the source's vector is AES_ENC's taken back. -/
theorem aesDecDecryptsTheState : Obligations.AesDecDecryptsTheState :=
  ⟨rfl, fun _ => exec_of_check_ok rfl, by decide +kernel, by rw [← cipher_sourceVector, invCipher_cipher]⟩

/-! ## The step-wise sequences (R165) -/

/-- What a command sequence leaves, the rest of the sequence goes on from. -/
theorem execAll_append {is : List Instr} {s t : State} (h : execAll is s = .next t) (js : List Instr) :
    execAll (is ++ js) s = execAll js t := by
  induction is generalizing s with
  | nil => cases h; rfl
  | cons i is ih =>
    rw [List.cons_append, execAll]
    rw [execAll] at h
    cases he : exec i s with
    | next u => rw [he] at h; exact ih h
    | fault f => cases f
    | refused r => rw [he] at h; cases h

/-- With a schedule in AES_RK the sequence succeeds, and all it does is to put `f` of the round keys and the block into
AES_STATE. -/
def TransformsBlock (is : List Instr) (f : Vector Block 11 → Block → Block) : Prop :=
  ∀ s : State, s.aesKsv = true → execAll is s = .next (succeed { s with aesState := f s.aesRk s.aesState })

namespace TransformsBlock

theorem single {i : Instr} {f : Vector Block 11 → Block → Block}
    (hcheck : ∀ s : State, s.aesKsv = true → commandCheck i s = .ok)
    (hsem : ∀ s, semantics i s = { s with aesState := f s.aesRk s.aesState }) : TransformsBlock [i] f := by
  intro s hksv
  rw [execAll_cons_of_check_ok (hcheck s hksv), hsem, execAll]

theorem append {is js : List Instr} {f g : Vector Block 11 → Block → Block} (hf : TransformsBlock is f)
    (hg : TransformsBlock js g) : TransformsBlock (is ++ js) fun rk b => g rk (f rk b) := by
  intro s hksv
  rw [execAll_append (hf s hksv)]
  exact hg _ hksv

/-- Rounds one after another, and what follows them. -/
theorem rounds {commands : Nat → List Instr} {round : Vector Block 11 → Block → Nat → Block} {ks : List Nat}
    (hround : ∀ k ∈ ks, TransformsBlock (commands k) fun rk b => round rk b k) {js : List Instr}
    {g : Vector Block 11 → Block → Block} (hg : TransformsBlock js g) :
    TransformsBlock ((ks.map commands).flatten ++ js) fun rk b => g rk (ks.foldl (round rk) b) := by
  induction ks with
  | nil => exact hg
  | cons k ks ih =>
    obtain ⟨hk, hrest⟩ := List.forall_mem_cons.mp hround
    rw [List.map_cons, List.flatten_cons, List.append_assoc]
    exact hk.append (ih hrest)

theorem aesSub : TransformsBlock [.aesSub] fun _ => subBytes := single (fun _ _ => rfl) fun _ => rfl

theorem aesInvsub : TransformsBlock [.aesInvsub] fun _ => invSubBytes := single (fun _ _ => rfl) fun _ => rfl

theorem aesShift : TransformsBlock [.aesShift] fun _ => shiftRows := single (fun _ _ => rfl) fun _ => rfl

theorem aesInvshift : TransformsBlock [.aesInvshift] fun _ => invShiftRows := single (fun _ _ => rfl) fun _ => rfl

theorem aesMix : TransformsBlock [.aesMix] fun _ => mixColumns := single (fun _ _ => rfl) fun _ => rfl

theorem aesInvmix : TransformsBlock [.aesInvmix] fun _ => invMixColumns := single (fun _ _ => rfl) fun _ => rfl

theorem aesArk {k : Nat} (hk : k ≤ 10) :
    TransformsBlock [.aesArk (BitVec.ofNat 4 k)] fun rk b => addRoundKey b (roundKey rk k) := by
  have hidx : (BitVec.ofNat 4 k).toNat = k := (BitVec.toNat_ofNat k 4).trans (Nat.mod_eq_of_lt (by omega))
  refine single (fun s hksv => (arkCheck_eq_ok _ s).mpr ⟨by rwa [hidx], hksv⟩) fun s => ?_
  rw [semantics, hidx]

/-- The round that `aes.round` runs (30_encoding.md R92). -/
theorem aesRound {k : Nat} (hk : k ≤ 10) :
    TransformsBlock (aesRoundCommands k) fun rk b => cipherRound rk b k :=
  aesSub.append (aesShift.append (aesMix.append (aesArk hk)))

/-- The round that `aes.invround` runs (30_encoding.md R92). -/
theorem aesInvround {k : Nat} (hk : k ≤ 10) :
    TransformsBlock (aesInvroundCommands k) fun rk b => invCipherRound rk b k :=
  aesInvsub.append (aesInvshift.append (aesInvmix.append (aesArk hk)))

end TransformsBlock

/-- The middle rounds of both sequences name round keys that there are. -/
theorem round_le_ten : ∀ k ∈ [1, 2, 3, 4, 5, 6, 7, 8, 9], k ≤ 10 := by decide

/-- The step-wise encryption after its key expansion. -/
theorem transformsBlock_stepwiseEncrypt_tail : TransformsBlock stepwiseEncrypt.tail fun rk b => cipher b rk :=
  (TransformsBlock.aesArk (k := 0) (by decide)).append <|
    .rounds (fun k hk => .aesRound (round_le_ten k hk)) <|
      TransformsBlock.aesSub.append (TransformsBlock.aesShift.append (.aesArk (k := 10) (by decide)))

/-- The step-wise decryption after its key expansion. -/
theorem transformsBlock_stepwiseDecrypt_tail : TransformsBlock stepwiseDecrypt.tail fun rk b => invCipher b rk :=
  (TransformsBlock.aesArk (k := 0) (by decide)).append <|
    .rounds (fun k hk => .aesInvround (round_le_ten k hk)) <|
      TransformsBlock.aesInvsub.append (TransformsBlock.aesInvshift.append (.aesArk (k := 10) (by decide)))

/-- After the key expansion a schedule is in AES_RK, so a sequence that transforms the block does so under it. -/
theorem TransformsBlock.after_aesKeyexp {is : List Instr} {f : Vector Block 11 → Block → Block}
    (h : TransformsBlock is f) (dir : Dir) (s : State) :
    execAll (.aesKeyexp dir :: is) s =
      .next (succeed { writeAesSchedule dir s with aesState := f (keyExp s.aesKey dir) s.aesState }) :=
  (execAll_cons_of_check_ok rfl _).trans (h _ rfl)

/-- Settles O27: each sequence leaves the schedule of AES_KEY, and the block that the cipher's own rounds give. -/
theorem aesStepwiseEqualsTheCipher : Obligations.AesStepwiseEqualsTheCipher := fun s =>
  ⟨transformsBlock_stepwiseEncrypt_tail.after_aesKeyexp .enc s,
    transformsBlock_stepwiseDecrypt_tail.after_aesKeyexp .dec s⟩

end Sys2Proof.Machine
end

section
/-! SUPPORT. The DES round engine (43_des_round.md R180 to R195): the permutations position by position and the tables
that take each other back, the S-box layer group by group, the Feistel round taken back, and the statements about the
commands. -/

namespace Sys2Proof.Machine

/-! ## The permutation engine (R180) -/

/-- Settles O33: `getMsbD_permute` with both positions counted from the least significant bit. -/
theorem permuteTakesTheTablePositions : Obligations.PermuteTakesTheTablePositions := by
  intro n m v t hlen hbound i hi
  have hentry : t.getD i 0 < n := by
    rw [List.getD_eq_getElem?_getD, List.getElem?_eq_getElem (hlen.symm ▸ hi), Option.getD_some]
    exact hbound _ (List.getElem_mem _)
  simpa only [BitVec.getMsbD_eq_getLsbD, hi, hentry, decide_true, Bool.true_and] using getMsbD_permute v t hlen i hi

/-- The identity table (R195). -/
theorem permute_range {n : Nat} (v : BitVec n) : permute n v (List.range n) = v := by
  apply BitVec.eq_of_getMsbD_eq
  intro i hi
  rw [getMsbD_permute v _ List.length_range i hi, List.getD_eq_getElem?_getD, List.getElem?_range hi, Option.getD_some]

/-- A table undoes another when it finds each position where the other one put it. -/
theorem permute_permute_of_inverse {n : Nat} {t u : List Nat} (ht : t.length = n) (hu : u.length = n)
    (hbound : ∀ p ∈ u, p < n) (hinv : (u.map fun p => t.getD p 0) = List.range n) (v : BitVec n) :
    permute n (permute n v t) u = v := by
  rw [permute_permute v t u ht hu hbound, hinv, permute_range]

/-! ## IP and FP (R181, R182) -/

/-- The table of R181 row by row: by 8 down along a row, by 2 up from row to row. -/
theorem ipTable_getD : ∀ p < 64,
    ipTable.getD p 0 = (if p / 8 < 4 then 57 + 2 * (p / 8) else 48 + 2 * (p / 8)) - 8 * (p % 8) := by
  decide

theorem fpTable_getD_ipTable : ∀ p < 64, ipTable.getD p 0 < 64 ∧ fpTable.getD (ipTable.getD p 0) 0 = p := by
  decide

theorem finalPerm_initialPerm (v : DesBlock) : finalPerm (initialPerm v) = v :=
  permute_permute_of_inverse (t := ipTable) (u := fpTable) rfl rfl (by decide) (by decide) v

theorem initialPerm_finalPerm (v : DesBlock) : initialPerm (finalPerm v) = v :=
  permute_permute_of_inverse (t := fpTable) (u := ipTable) rfl rfl (by decide) (by decide) v

/-- FP takes a bit from the position it has to IP's table entry for that position (R182). -/
theorem getMsbD_finalPerm_ipTable (v : DesBlock) {p : Nat} (hp : p < 64) :
    (finalPerm v).getMsbD (ipTable.getD p 0) = v.getMsbD p := by
  obtain ⟨hlt, hinv⟩ := fpTable_getD_ipTable p hp
  rw [getMsbD_finalPerm v _ hlt, hinv]

/-- Settles O29: DES_IP has no check that can fail, and the table's entries follow R181's rows. -/
theorem desIpPermutesTheBlock : Obligations.DesIpPermutesTheBlock :=
  ⟨rfl, fun _ => exec_of_check_ok rfl, fun v p hp => ipTable_getD p hp ▸ getMsbD_initialPerm v p hp,
    by decide +kernel, by decide +kernel, by decide +kernel, by decide +kernel, by decide +kernel⟩

/-- Settles O30: DES_FP has no check that can fail, and FP's table is the inverse of IP's. -/
theorem desFpPermutesTheBlockBack : Obligations.DesFpPermutesTheBlockBack :=
  ⟨rfl, fun _ => exec_of_check_ok rfl, fun v _ => getMsbD_finalPerm_ipTable v,
    fun s => ⟨_, rfl, finalPerm_initialPerm s.desBlock⟩, fun s => ⟨_, rfl, initialPerm_finalPerm s.desBlock⟩,
    by decide +kernel⟩

/-! ## The S-box layer (R186, R187) -/

/-- Output nibble j is the box of group j. -/
theorem extractLsb'_sLayer (x : Subkey) {j : Nat} (hj : j < 8) :
    (sLayer x).extractLsb' (28 - 4 * j) 4 = desSbox j (sixBits x j) := by
  rw [sLayer, BitVec.extractLsb'_setWidth_of_le (by omega)]
  match j with
  | 0 | 1 | 2 | 3 | 4 | 5 | 6 | 7 =>
    simp (disch := decide) only [BitVec.extractLsb'_append_eq_of_le, BitVec.extractLsb'_append_eq_of_add_le,
      Nat.reduceMul, Nat.reduceSub, BitVec.extractLsb'_eq_self]

/-- Every entry of a box is a nibble (R185). -/
theorem desBox_entry_lt : ∀ j < 8, ∀ row < 4, ∀ col < 16, ((desBox j).getD row []).getD col 0 < 16 := by
  decide +kernel

/-- Settles O34: nibble by nibble, and no entry is cut down to its four bits. -/
theorem sLayerLooksUpEachGroup : Obligations.SLayerLooksUpEachGroup := by
  refine ⟨fun x _ => extractLsb'_sLayer x, ?_⟩
  rintro j _ _ g hj rfl rfl
  have hrow : 2 * (g.getLsbD 5).toNat + (g.getLsbD 0).toNat < 4 := by
    have h5 := Bool.toNat_lt (g.getLsbD 5)
    have h0 := Bool.toNat_lt (g.getLsbD 0)
    omega
  exact (BitVec.toNat_ofNat _ 4).trans <| Nat.mod_eq_of_lt (desBox_entry_lt j hj _ hrow _ (BitVec.isLt _))

/-! ## Swap and the Feistel round (R188 to R190) -/

theorem swapHalves_swapHalves (b : DesBlock) : swapHalves (swapHalves b) = b :=
  eq_of_halves_eq (by simp) (by simp)

theorem swapHalves_of_equal_halves {b : DesBlock} (h : hiHalf b = loHalf b) : swapHalves b = b :=
  eq_of_halves_eq (by simp [h]) (by simp [h])

/-- Swap, the same round and swap undo a round: the second round adds the same `f(R, K)` to the same half (R195). -/
theorem swapHalves_feistelRound_cancel (b : DesBlock) (k : Subkey) :
    swapHalves (feistelRound (swapHalves (feistelRound b k)) k) = b := by
  refine eq_of_halves_eq ?_ (by simp)
  calc hiHalf (swapHalves (feistelRound (swapHalves (feistelRound b k)) k))
    _ = feistelF (loHalf b) k ^^^ (feistelF (loHalf b) k ^^^ hiHalf b) := by simp
    _ = hiHalf b := by rw [← BitVec.xor_assoc, BitVec.xor_self, BitVec.zero_xor]

/-- Settles O31: DES_SWAP has no check that can fail, and Swap is read off the halves. -/
theorem desSwapExchangesTheHalves : Obligations.DesSwapExchangesTheHalves :=
  ⟨rfl, fun _ => exec_of_check_ok rfl, fun b => ⟨hiHalf_swapHalves b, loHalf_swapHalves b⟩,
    fun s => ⟨_, rfl, swapHalves_swapHalves s.desBlock⟩, fun _ => swapHalves_of_equal_halves, by decide⟩

/-- DES_ROUND without a valid schedule, or with an index that has no subkey in it (60_exceptions.md R303). -/
theorem exec_desRound_noSubkey {idx : BitVec 4} {s : State} (h : s.desKsv = false ∨ s.desNsk.toNat ≤ idx.toNat) :
    exec (.desRound idx) s = .next { s with err := 0x5#4 } :=
  exec_of_check_eq (code := .noKeySchedule) (if_pos h) (by decide)

/-- Settles O32: by the check of DES_ROUND, and the halves of a round. -/
theorem desRoundRunsOneFeistelRound : Obligations.DesRoundRunsOneFeistelRound :=
  ⟨encode_desRound, fun idx => ⟨_, decode_encode (.desRound idx)⟩,
    fun idx s hksv hidx => exec_of_check_ok ((desRoundCheck_eq_ok idx s).mpr ⟨hksv, hidx⟩),
    fun _ _ => exec_desRound_noSubkey, fun b k => ⟨hiHalf_feistelRound b k, loHalf_feistelRound b k⟩,
    swapHalves_feistelRound_cancel, by decide +kernel, by decide +kernel⟩

/-- Settles O35: the identity table, the two inverse tables, and the round taken back. -/
theorem desPermutationAndRoundProperties : Obligations.DesPermutationAndRoundProperties :=
  ⟨fun _ => permute_range, finalPerm_initialPerm, initialPerm_finalPerm, swapHalves_feistelRound_cancel⟩

end Sys2Proof.Machine
end

section
/-! SUPPORT. The DES key scheduler (44_des_keysched.md R220 to R228): the halves as rotations of PC1's halves, the
entries of a schedule and what they depend on, and DES_KEYEXP. -/

namespace Sys2Proof.Machine

/-! ## Rotations -/

section
variable {w : Nat} (x : BitVec w)

theorem rotateLeft_of_mod_eq_zero {n : Nat} (h : n % w = 0) : x.rotateLeft n = x := by
  apply BitVec.eq_of_getMsbD_eq
  intro i hi
  rw [← BitVec.rotateLeft_mod_eq_rotateLeft, h, BitVec.getMsbD_rotateLeft, Nat.zero_add, Nat.mod_eq_of_lt hi]
  simp [hi]

theorem rotateLeft_rotateLeft (a b : Nat) : (x.rotateLeft a).rotateLeft b = x.rotateLeft (a + b) := by
  apply BitVec.eq_of_getMsbD_eq
  intro i hi
  have hlt : (b + i) % w < w := Nat.mod_lt _ (Nat.zero_lt_of_lt hi)
  simp only [BitVec.getMsbD_rotateLeft, hi, hlt, decide_true, Bool.true_and]
  rw [Nat.add_mod_mod, Nat.add_assoc]

end

/-- The spec's rotation is the library's (R223). -/
theorem rotl28_eq_rotateLeft (h : BitVec 28) {k : Nat} (hk : k < 28) : rotl28 h k = h.rotateLeft k :=
  (BitVec.rotateLeft_eq_rotateLeftAux_of_lt hk).symm

theorem shiftSchedule_getD_le_two (i : Nat) : shiftSchedule.getD i 0 ≤ 2 := by
  rcases Nat.lt_or_ge i shiftSchedule.length with hi | hi
  · exact (by decide : ∀ i < shiftSchedule.length, shiftSchedule.getD i 0 ≤ 2) i hi
  · rw [List.getD_eq_getElem?_getD, List.getElem?_eq_none hi, Option.getD_none]
    exact Nat.zero_le 2

theorem sum_take_shiftSchedule_succ (i : Nat) :
    (shiftSchedule.take (i + 1)).sum = (shiftSchedule.take i).sum + shiftSchedule.getD i 0 := by
  rw [List.take_add_one, List.sum_append, List.getD_eq_getElem?_getD]
  cases shiftSchedule[i]? <;> simp

/-! ## The halves (R223, R224) -/

theorem keyHalves_succ (key : DesBlock) (i : Nat) :
    keyHalves key (i + 1) =
      (rotl28 (keyHalves key i).1 (shiftSchedule.getD i 0), rotl28 (keyHalves key i).2 (shiftSchedule.getD i 0)) := rfl

/-- After i rounds both halves are rotated by the sum of the first i shifts. -/
theorem keyHalves_eq_rotateLeft (key : DesBlock) (i : Nat) :
    keyHalves key i =
      ((keyHalves key 0).1.rotateLeft (shiftSchedule.take i).sum,
        (keyHalves key 0).2.rotateLeft (shiftSchedule.take i).sum) := by
  induction i with
  | zero => exact Prod.ext (rotateLeft_of_mod_eq_zero _ rfl).symm (rotateLeft_of_mod_eq_zero _ rfl).symm
  | succ i ih =>
    have hshift : shiftSchedule.getD i 0 < 28 := Nat.lt_of_le_of_lt (shiftSchedule_getD_le_two i) (by decide)
    rw [keyHalves_succ, ih, sum_take_shiftSchedule_succ]
    simp only [rotl28_eq_rotateLeft _ hshift, rotateLeft_rotateLeft]

/-- Settles O36: the rotations add up, and 28 in all is a full turn. -/
theorem keyHalvesRotateCumulatively : Obligations.KeyHalvesRotateCumulatively := by
  have fullTurn : (shiftSchedule.take 16).sum % 28 = 0 := by decide
  refine ⟨rfl, by decide, fun key i _ => Prod.ext_iff.mp (keyHalves_eq_rotateLeft key (i + 1)), fun key => ?_⟩
  rw [keyHalves_eq_rotateLeft key 16, rotateLeft_of_mod_eq_zero _ fullTurn, rotateLeft_of_mod_eq_zero _ fullTurn]

/-- A key is read through PC1 alone. -/
theorem keyHalves_congr {key key' : DesBlock} (h : permute 56 key pc1Table = permute 56 key' pc1Table) (i : Nat) :
    keyHalves key i = keyHalves key' i := by
  induction i with
  | zero => rw [keyHalves, keyHalves, h]
  | succ i ih => rw [keyHalves_succ, keyHalves_succ, ih]

/-! ## The entries of a schedule (R224) -/

section
variable (key : DesBlock) {nr k : Nat}

theorem keySchedule_dec_getD (h : k < nr) :
    (keySchedule key nr .dec).getD k 0#48 = (keySchedule key nr .enc).getD (nr - 1 - k) 0#48 := by
  rw [keySchedule_dec, List.getD_eq_getElem?_getD, List.getElem?_reverse (by rwa [length_keySchedule]),
    length_keySchedule, List.getD_eq_getElem?_getD]

theorem keySchedule_getD_of_le (dir : Dir) (h : nr ≤ k) : (keySchedule key nr dir).getD k 0#48 = 0#48 := by
  rw [List.getD_eq_getElem?_getD, List.getElem?_eq_none (by rwa [length_keySchedule]), Option.getD_none]

end

/-! ## Keys that repeat one subkey (R227) -/

section
variable {key : DesBlock}
  (h : ∀ r ≤ 2,
    rotl28 (keyHalves key 0).1 r = (keyHalves key 0).1 ∧ rotl28 (keyHalves key 0).2 r = (keyHalves key 0).2)
include h

/-- Halves that each shift of the schedule leaves as they are stay as PC1 gives them. -/
theorem keyHalves_of_rotl28_eq (i : Nat) : keyHalves key i = keyHalves key 0 := by
  induction i with
  | zero => rfl
  | succ i ih =>
    obtain ⟨hc, hd⟩ := h _ (shiftSchedule_getD_le_two i)
    rw [keyHalves_succ, ih, hc, hd]

theorem keySchedule_enc_of_rotl28_eq (nr : Nat) :
    keySchedule key nr .enc = List.replicate nr (generatedKey key 0) := by
  have same (i : Nat) : generatedKey key i = generatedKey key 0 := by
    rw [generatedKey, generatedKey, keyHalves_of_rotl28_eq h, keyHalves_of_rotl28_eq h (0 + 1)]
  rw [keySchedule, List.map_congr_left fun i _ => same i, List.map_const', List.length_range]

end

/-! ## The parity bits (R225) -/

/-- A permutation does not see a change at the positions its table leaves out. -/
theorem permute_xor_of_unread {n : Nat} (m : Nat) (v mask : BitVec n) {t : List Nat}
    (h : ∀ p ∈ t, mask.getMsbD p = false) : permute m (v ^^^ mask) t = permute m v t := by
  have bits : t.map (v ^^^ mask).getMsbD = t.map v.getMsbD :=
    List.map_congr_left fun p hp => by rw [BitVec.getMsbD_xor, h p hp, Bool.xor_false]
  rw [permute, permute, bits]

/-- The mask has no bit outside the parity positions of a key. -/
def OnlyParityBits (m : DesBlock) : Prop :=
  ∀ p, p < 64 → p ∉ [7, 15, 23, 31, 39, 47, 55, 63] → m.getMsbD p = false

theorem pc1Table_not_parity : ∀ p ∈ pc1Table, p < 64 ∧ p ∉ [7, 15, 23, 31, 39, 47, 55, 63] := by decide

/-- PC1 leaves the parity positions out, so no subkey depends on them. -/
theorem keySchedule_xor_onlyParityBits (key : DesBlock) {m : DesBlock} (hm : OnlyParityBits m) (nr : Nat) (dir : Dir) :
    keySchedule (key ^^^ m) nr dir = keySchedule key nr dir := by
  have pc1 : permute 56 (key ^^^ m) pc1Table = permute 56 key pc1Table :=
    permute_xor_of_unread 56 key m fun p hp => (pc1Table_not_parity p hp).elim (hm p)
  have generated : generatedKey (key ^^^ m) = generatedKey key :=
    funext fun i => by rw [generatedKey, generatedKey, keyHalves_congr pc1]
  cases dir <;> rw [keySchedule, keySchedule, generated]

/-- Settles O37: the entries of both sequences are the generated keys, which read no parity bit. -/
theorem desScheduleProperties : Obligations.DesScheduleProperties := by
  refine ⟨fun key => ⟨length_keySchedule key 16 .enc, fun _ => keySchedule_dec_getD key⟩,
    fun key nr k _ hnr hk => ⟨keySchedule_dec_getD key hk, ?_⟩,
    fun key _ nr dir _ _ hm => keySchedule_xor_onlyParityBits key hm nr dir⟩
  rw [keySchedule_enc_getD key nr k hk, keySchedule_enc_getD key 16 k (Nat.lt_of_lt_of_le hk hnr)]

/-! ## DES_KEYEXP (R226, R227) -/

/-- DES_SK after a schedule is written, the entries past its end included. -/
theorem subkey_writeDesSchedule_eq_ite (ksel : BitVec 2) (nr : BitVec 5) (dir : Dir) (s : State) (k : Nat)
    (hk : k < 16) :
    subkey (writeDesSchedule ksel nr dir s).desSk k =
      if k < nr.toNat then (keySchedule (selectKey s.desKey ksel) nr.toNat dir).getD k 0#48 else 0#48 := by
  rw [subkey_writeDesSchedule ksel nr dir s k hk]
  split
  · rfl
  · next h => exact keySchedule_getD_of_le _ dir (Nat.le_of_not_lt h)

theorem keyAndRoundCheck_illegalKey (nr : BitVec 5) : keyAndRoundCheck 3#2 nr = .illegalCommand := if_pos rfl

theorem keyAndRoundCheck_badRounds {ksel : BitVec 2} {nr : BitVec 5} (hksel : ksel ≠ 3#2)
    (hnr : nr = 0#5 ∨ 16 < nr.toNat) : keyAndRoundCheck ksel nr = .invalidRoundCount :=
  (if_neg hksel).trans (if_pos hnr)

/-- The word of a command with an illegal field is illegal (30_encoding.md R89). -/
theorem illegalEffect_of_not_wellFormed {i : Instr} (h : i.wellFormed = false) : IllegalEffect (encode i) := by
  obtain ⟨_, hfields⟩ := (checkFields_illegal_iff i).mpr h
  exact fun s => runCommandWord_illegal s ((decode_encode i).trans hfields)

/-- V-DES-KS: the first two subkeys and the last. -/
theorem generatedKey_example :
    generatedKey 0x133457799bbcdff1#64 0 = 0x1b02effc7072#48 ∧
    generatedKey 0x133457799bbcdff1#64 1 = 0x79aed9dbc9e5#48 ∧
    generatedKey 0x133457799bbcdff1#64 15 = 0xcb3d8b0e17f5#48 := by
  decide +kernel

theorem keySchedule_zero : keySchedule 0#64 16 .enc = List.replicate 16 0#48 :=
  (keySchedule_enc_of_rotl28_eq (by decide +kernel) 16).trans (congrArg _ (by decide +kernel))

theorem keySchedule_allOnes : keySchedule 0xFFFFFFFFFFFFFFFF#64 16 .enc = List.replicate 16 0xFFFFFFFFFFFF#48 :=
  (keySchedule_enc_of_rotl28_eq (by decide +kernel) 16).trans (congrArg _ (by decide +kernel))

/-- A key of parity bits alone has the subkeys of the zero key. -/
theorem keySchedule_parityOnly : keySchedule 0x0101010101010101#64 16 .enc = List.replicate 16 0#48 := by
  have mask : OnlyParityBits 0x0101010101010101#64 := by unfold OnlyParityBits; decide
  rw [← keySchedule_zero, ← keySchedule_xor_onlyParityBits 0#64 mask, BitVec.zero_xor]

/-- STATUS after `des.keyexp k1, enc, 2` with the AES flags clear. -/
theorem hostRead_status_desKeyexp_example {s t : State} (hksv : s.aesKsv = false) (hdir : s.aesKsdir = .enc)
    (h : exec (.desKeyexp .enc 0#2 2#5) s = .next t) : hostRead 0x008#10 t = 0x00021000#32 := by
  cases (exec_of_check_ok (i := .desKeyexp .enc 0#2 2#5) (s := s) rfl).symm.trans h
  calc hostRead 0x008#10 (succeed (semantics (.desKeyexp .enc 0#2 2#5) s))
    _ = statusWord (succeed (semantics (.desKeyexp .enc 0#2 2#5) s)) := hostRead_ofNat (r := .status) rfl _
    _ = 0x00021000#32 := by simp [statusWord, semantics, hksv, hdir, Dir.bit, errValue]

/-- Settles O38: by the checks of DES_KEYEXP in their order, and the entries of the schedule it writes. -/
theorem desKeyexpWritesTheSchedule : Obligations.DesKeyexpWritesTheSchedule := by
  obtain ⟨subkey0, subkey1, subkey15⟩ := generatedKey_example
  refine ⟨encode_desKeyexp, by decide, by decide, fun dir ksel nr s hksel hlo hhi => ?success,
    fun dir nr s => ?illegalKey, fun dir ksel nr s hksel hnr => ?badRounds, fun _ => rfl, keySchedule_zero,
    keySchedule_allOnes, keySchedule_parityOnly, ?enc0, ?enc1, ?enc15, ?dec0, ?dec15, ?two,
    fun _ _ => hostRead_status_desKeyexp_example⟩
  case success =>
    exact ⟨_, exec_of_check_ok ((keyAndRoundCheck_eq_ok ksel nr).mpr ⟨hksel, hlo, hhi⟩), rfl,
      subkey_writeDesSchedule_eq_ite ksel nr dir s⟩
  case illegalKey =>
    exact ⟨exec_of_check_eq (i := .desKeyexp dir 3#2 nr) (keyAndRoundCheck_illegalKey nr) (by decide),
      illegalEffect_of_not_wellFormed rfl⟩
  case badRounds =>
    exact exec_of_check_eq (i := .desKeyexp dir ksel nr) (keyAndRoundCheck_badRounds hksel hnr) (by decide)
  case enc0 => rw [keySchedule_enc_getD _ 16 0 (by decide), subkey0]
  case enc1 => rw [keySchedule_enc_getD _ 16 1 (by decide), subkey1]
  case enc15 => rw [keySchedule_enc_getD _ 16 15 (by decide), subkey15]
  case dec0 => rw [keySchedule_dec_getD _ (by decide), keySchedule_enc_getD _ 16 15 (by decide), subkey15]
  case dec15 => rw [keySchedule_dec_getD _ (by decide), keySchedule_enc_getD _ 16 0 (by decide), subkey0]
  case two => rw [← subkey0, ← subkey1]; rfl

end Sys2Proof.Machine
end

section
/-! SUPPORT. The DES and triple-DES ciphers (45_des_cipher.md R240 to R247): decryption takes the rounds back, last one
first; what DES_ENC and DES_DEC leave, stated once for both directions; what the triple-DES commands leave; and the
step-wise sequences. -/

namespace Sys2Proof.Machine

/-! ## Decryption undoes encryption (R247) -/

/-- Between two swaps, the rounds in the opposite order take the rounds back. -/
theorem foldl_feistelRound_reverse (ks : List Subkey) (b : DesBlock) :
    swapHalves (ks.reverse.foldl feistelRound (swapHalves (ks.foldl feistelRound b))) = b := by
  induction ks generalizing b with
  | nil => exact swapHalves_swapHalves b
  | cons k ks ih =>
    have inner : ks.reverse.foldl feistelRound (swapHalves (ks.foldl feistelRound (feistelRound b k))) =
        swapHalves (feistelRound b k) := by
      rw [← swapHalves_swapHalves (ks.reverse.foldl _ _), ih]
    rw [List.foldl_cons, List.reverse_cons, List.foldl_append, inner, List.foldl_cons, List.foldl_nil,
      swapHalves_feistelRound_cancel]

section
variable (b key : DesBlock) (nr : Nat)

/-- The permutations between two passes cancel, so a pass under the reversed schedule takes the other one back. -/
theorem desCrypt_desCrypt_of_reverse {d d' : Dir} (h : keySchedule key nr d' = (keySchedule key nr d).reverse) :
    desCrypt (desCrypt b key nr d) key nr d' = b := by
  rw [desCrypt, desCrypt, initialPerm_finalPerm, h, foldl_feistelRound_reverse, finalPerm_initialPerm]

theorem desCrypt_dec_desCrypt_enc : desCrypt (desCrypt b key nr .enc) key nr .dec = b :=
  desCrypt_desCrypt_of_reverse b key nr (keySchedule_dec key nr)

theorem desCrypt_enc_desCrypt_dec : desCrypt (desCrypt b key nr .dec) key nr .enc = b :=
  desCrypt_desCrypt_of_reverse b key nr (by rw [keySchedule_dec, List.reverse_reverse])

end

theorem tdesDecrypt_tdesEncrypt (keys : Vector DesBlock 3) (form : TdesKeys) (b : DesBlock) :
    tdesDecrypt keys form (tdesEncrypt keys form b) = b := by
  simp only [tdesDecrypt, tdesEncrypt, desCrypt_dec_desCrypt_enc, desCrypt_enc_desCrypt_dec]

/-- Settles O43: the passes of a decryption take the passes of the encryption back, last one first. -/
theorem desAndTdesDecryptWhatTheyEncrypt : Obligations.DesAndTdesDecryptWhatTheyEncrypt :=
  ⟨fun p key nr _ _ => desCrypt_dec_desCrypt_enc p key nr, tdesDecrypt_tdesEncrypt⟩

/-! ## DES_ENC and DES_DEC (R241, R242) -/

/-- A command that leaves a schedule and a block: every register after it, DES_SK entry by entry. -/
theorem exists_registers_of_scheduled {i : Instr} {ksel : BitVec 2} {nr : BitVec 5} {dir : Dir} {s : State}
    {b : DesBlock} (h : exec i s = .next (succeed { writeDesSchedule ksel nr dir s with desBlock := b })) :
    ∃ t, exec i s = .next t ∧
      t = { s with
        desBlock := b,
        desSk := t.desSk, desKsv := true, desKsdir := dir, desKsel := ksel, desNsk := nr, err := 0x0#4 } ∧
      ∀ k, k < 16 → subkey t.desSk k =
        if k < nr.toNat then (keySchedule (selectKey s.desKey ksel) nr.toNat dir).getD k 0#48 else 0#48 :=
  ⟨_, h, rfl, subkey_writeDesSchedule_eq_ite ksel nr dir s⟩

/-- The command that runs DES in a direction. -/
def desCommand (dir : Dir) (ksel : BitVec 2) (nr : BitVec 5) : Instr :=
  match dir with
  | .enc => .desEnc ksel nr
  | .dec => .desDec ksel nr

section
variable (dir : Dir) (ksel : BitVec 2) (nr : BitVec 5) (s : State)

theorem commandCheck_desCommand : commandCheck (desCommand dir ksel nr) s = keyAndRoundCheck ksel nr := by
  cases dir <;> rfl

theorem semantics_desCommand :
    semantics (desCommand dir ksel nr) s =
      { writeDesSchedule ksel nr dir s with
        desBlock := desCrypt s.desBlock (selectKey s.desKey ksel) nr.toNat dir } := by
  cases dir <;> rfl

/-- KSEL 3 fails, whatever NR is, and its word is illegal (30_encoding.md R89). -/
theorem exec_desCommand_illegalKey :
    exec (desCommand dir 3#2 nr) s = .next { s with err := 0x4#4 } ∧
      IllegalEffect (encode (desCommand dir 3#2 nr)) :=
  ⟨exec_of_check_eq ((commandCheck_desCommand dir 3#2 nr s).trans (keyAndRoundCheck_illegalKey nr)) (by decide),
    illegalEffect_of_not_wellFormed (by cases dir <;> rfl)⟩

variable {ksel nr}

theorem exec_desCommand_badRounds (hksel : ksel ≠ 3#2) (hnr : nr = 0#5 ∨ 16 < nr.toNat) :
    exec (desCommand dir ksel nr) s = .next { s with err := 0x3#4 } :=
  exec_of_check_eq ((commandCheck_desCommand dir ksel nr s).trans (keyAndRoundCheck_badRounds hksel hnr)) (by decide)

variable (hksel : ksel ≠ 3#2) (hlo : 1 ≤ nr.toNat) (hhi : nr.toNat ≤ 16)
include hksel hlo hhi

theorem commandCheck_desCommand_legal : commandCheck (desCommand dir ksel nr) s = .ok :=
  (commandCheck_desCommand dir ksel nr s).trans ((keyAndRoundCheck_eq_ok ksel nr).mpr ⟨hksel, hlo, hhi⟩)

theorem exec_desCommand_legal :
    exec (desCommand dir ksel nr) s =
      .next (succeed { writeDesSchedule ksel nr dir s with
        desBlock := desCrypt s.desBlock (selectKey s.desKey ksel) nr.toNat dir }) := by
  rw [exec_of_check_ok (commandCheck_desCommand_legal dir s hksel hlo hhi), semantics_desCommand]

/-- DES_DEC meets DES_ENC's result under the same key, which no command writes. -/
theorem execAll_desEnc_desDec :
    ∃ t, execAll [.desEnc ksel nr, .desDec ksel nr] s = .next t ∧ t.desBlock = s.desBlock :=
  ⟨_, (execAll_cons_of_check_ok (commandCheck_desCommand_legal .enc s hksel hlo hhi) _).trans
      (execAll_cons_of_check_ok (commandCheck_desCommand_legal .dec _ hksel hlo hhi) _),
    by simp only [semantics_desCommand, succeed_desBlock, succeed_desKey, writeDesSchedule_desKey,
      desCrypt_dec_desCrypt_enc]⟩

end

/-- V-DES-KAT: the source's vector. -/
theorem desCrypt_sourceVector :
    desCrypt 0x0123456789abcdef#64 0x133457799bbcdff1#64 16 .enc = 0x85e813540f0ab405#64 := by
  decide +kernel

/-- Settles O39: by the checks of DES_ENC in their order. -/
theorem desEncEncryptsTheBlock : Obligations.DesEncEncryptsTheBlock :=
  ⟨encode_desEnc, by decide, by decide,
    fun _ _ s hksel hlo hhi => exists_registers_of_scheduled (exec_desCommand_legal .enc s hksel hlo hhi),
    exec_desCommand_illegalKey .enc, fun _ _ => exec_desCommand_badRounds .enc,
    by decide +kernel, by decide +kernel, by decide +kernel, desCrypt_sourceVector⟩

/-- Settles O40: as for DES_ENC, whose vector DES_DEC takes back. -/
theorem desDecDecryptsTheBlock : Obligations.DesDecDecryptsTheBlock :=
  ⟨encode_desDec, by decide,
    fun _ _ s hksel hlo hhi => exists_registers_of_scheduled (exec_desCommand_legal .dec s hksel hlo hhi),
    exec_desCommand_illegalKey .dec, fun _ _ => exec_desCommand_badRounds .dec,
    fun _ _ => execAll_desEnc_desDec, by decide +kernel,
    by rw [← desCrypt_sourceVector, desCrypt_dec_desCrypt_enc]⟩

/-! ## TDES_ENC and TDES_DEC (R244, R245) -/

section
variable (form : TdesKeys) (s : State)

theorem exec_tdesEnc :
    exec (.tdesEnc form) s =
      .next (succeed { writeDesSchedule (k3sel form) 16#5 .enc s with
        desBlock := tdesEncrypt s.desKey form s.desBlock }) :=
  exec_of_check_ok rfl

theorem exec_tdesDec :
    exec (.tdesDec form) s =
      .next (succeed { writeDesSchedule 0#2 16#5 .dec s with desBlock := tdesDecrypt s.desKey form s.desBlock }) :=
  exec_of_check_ok rfl

/-- TDES_DEC meets TDES_ENC's result under the same keys, which no command writes. -/
theorem execAll_tdesEnc_tdesDec :
    ∃ t, execAll [.tdesEnc form, .tdesDec form] s = .next t ∧ t.desBlock = s.desBlock :=
  ⟨_, (execAll_cons_of_check_ok rfl _).trans (execAll_cons_of_check_ok rfl _),
    by simp only [semantics, succeed_desBlock, succeed_desKey, writeDesSchedule_desKey, tdesDecrypt_tdesEncrypt]⟩

end

/-- With equal keys the first two passes cancel (R244). -/
theorem tdesEncrypt_of_equal_keys {keys : Vector DesBlock 3} {form : TdesKeys} (b : DesBlock)
    (h01 : keys[0] = keys[1]) (h12 : form = .three → keys[1] = keys[2]) :
    tdesEncrypt keys form b = desCrypt b keys[0] 16 .enc := by
  have second : selectKey keys 1#2 = keys[0] := h01.symm
  have third : selectKey keys (k3sel form) = keys[0] := by
    cases form with
    | two => rfl
    | three => exact (h01.trans (h12 rfl)).symm
  have first : selectKey keys 0#2 = keys[0] := rfl
  simp only [tdesEncrypt, first, second, third, desCrypt_dec_desCrypt_enc]

/-- V-TDES: the passes of the three-key encryption, and the last pass of the two-key encryption. -/
theorem desCrypt_tdesVector :
    desCrypt 0x5468652071756663#64 0x0123456789abcdef#64 16 .enc = 0xa28e91724c4bba31#64 ∧
    desCrypt 0xa28e91724c4bba31#64 0x23456789abcdef01#64 16 .dec = 0x5a2ea7f983a2f53f#64 ∧
    desCrypt 0x5a2ea7f983a2f53f#64 0x456789abcdef0123#64 16 .enc = 0xa826fd8ce53b855f#64 ∧
    desCrypt 0x5a2ea7f983a2f53f#64 0x0123456789abcdef#64 16 .enc = 0xc44862f70cf2fbdc#64 := by
  decide +kernel

/-- V-TDES: the encryption in both forms. -/
theorem tdesEncrypt_vector :
    tdesEncrypt #v[0x0123456789abcdef#64, 0x23456789abcdef01#64, 0x456789abcdef0123#64] .three 0x5468652071756663#64 =
      0xa826fd8ce53b855f#64 ∧
    tdesEncrypt #v[0x0123456789abcdef#64, 0x23456789abcdef01#64, 0x456789abcdef0123#64] .two 0x5468652071756663#64 =
      0xc44862f70cf2fbdc#64 := by
  obtain ⟨pass1, pass2, pass3, pass3'⟩ := desCrypt_tdesVector
  constructor
  · rw [← pass3, ← pass2, ← pass1]; rfl
  · rw [← pass3', ← pass2, ← pass1]; rfl

/-- Settles O41: no check of TDES_ENC can fail, and the schedule left is the last pass's. -/
theorem tdesEncEncryptsTheBlock : Obligations.TdesEncEncryptsTheBlock := by
  obtain ⟨pass1, pass2, _, _⟩ := desCrypt_tdesVector
  obtain ⟨three, two⟩ := tdesEncrypt_vector
  refine ⟨rfl, rfl, fun form s => ?registers,
    fun form s t u h01 h12 ht hu => ?equalKeys, ?equalKeysVector, pass1, pass2, three, two⟩
  case registers =>
    obtain ⟨t, hexec, hregs, hsk⟩ := exists_registers_of_scheduled (exec_tdesEnc form s)
    refine ⟨t, hexec, ?_, fun k hk => (hsk k hk).trans ((if_pos hk).trans ?_)⟩
    · cases form <;> exact hregs
    · cases form <;> rfl
  case equalKeys =>
    cases (exec_tdesEnc form s).symm.trans ht
    cases (exec_of_check_ok (i := .desEnc 0#2 16#5) (s := s) rfl).symm.trans hu
    exact tdesEncrypt_of_equal_keys s.desBlock h01 h12
  case equalKeysVector =>
    exact (tdesEncrypt_of_equal_keys _ rfl fun _ => rfl).trans desCrypt_sourceVector

/-- Settles O42: no check of TDES_DEC can fail, and its vectors are TDES_ENC's taken back. -/
theorem tdesDecDecryptsTheBlock : Obligations.TdesDecDecryptsTheBlock := by
  obtain ⟨_, pass2, pass3, _⟩ := desCrypt_tdesVector
  obtain ⟨three, two⟩ := tdesEncrypt_vector
  refine ⟨rfl, rfl, fun form s => ?registers, execAll_tdesEnc_tdesDec, ?pass3, ?pass2, ?three, ?two⟩
  case registers =>
    obtain ⟨t, hexec, hregs, hsk⟩ := exists_registers_of_scheduled (exec_tdesDec form s)
    refine ⟨t, hexec, ?_, fun k hk => (hsk k hk).trans (if_pos hk)⟩
    cases form <;> exact hregs
  case pass3 => rw [← pass3, desCrypt_dec_desCrypt_enc]
  case pass2 => rw [← pass2, desCrypt_enc_desCrypt_dec]
  case three => rw [← three, tdesDecrypt_tdesEncrypt]
  case two => rw [← two, tdesDecrypt_tdesEncrypt]

/-! ## The step-wise sequences (R247) -/

/-- Rounds whose subkeys are there, one after another. -/
theorem execAll_desRounds {ks : List Nat} {s : State} (hksv : s.desKsv = true)
    (hks : ∀ k ∈ ks, k < s.desNsk.toNat ∧ k < 16) :
    execAll (ks.map fun k => .desRound (BitVec.ofNat 4 k)) (succeed s) =
      .next (succeed { s with desBlock := (ks.map (subkey s.desSk)).foldl feistelRound s.desBlock }) := by
  induction ks generalizing s with
  | nil => rfl
  | cons k ks ih =>
    obtain ⟨⟨hnsk, h16⟩, hrest⟩ := List.forall_mem_cons.mp hks
    have hidx : (BitVec.ofNat 4 k).toNat = k := (BitVec.toNat_ofNat k 4).trans (Nat.mod_eq_of_lt h16)
    have check : commandCheck (.desRound (BitVec.ofNat 4 k)) (succeed s) = .ok :=
      (desRoundCheck_eq_ok _ _).mpr ⟨hksv, by rwa [hidx]⟩
    rw [List.map_cons, execAll_cons_of_check_ok check, semantics, hidx]
    exact ih (s := { s with desBlock := feistelRound s.desBlock (subkey s.desSk k) }) hksv hrest

/-- The subkeys that a schedule of at most 16 rounds leaves in DES_SK are the schedule (44_des_keysched.md R226). -/
theorem map_subkey_writeDesSchedule (ksel : BitVec 2) {nr : BitVec 5} (dir : Dir) (s : State) (hhi : nr.toNat ≤ 16) :
    (List.range nr.toNat).map (subkey (writeDesSchedule ksel nr dir s).desSk) =
      keySchedule (selectKey s.desKey ksel) nr.toNat dir := by
  refine List.ext_getElem (by simp) fun k _ hk => ?_
  rw [length_keySchedule] at hk
  rw [List.getElem_map, List.getElem_range, subkey_writeDesSchedule ksel nr dir s k (Nat.lt_of_lt_of_le hk hhi),
    List.getD_eq_getElem]

/-- The sequence after its key expansion, under the whole of a valid schedule. -/
theorem execAll_stepwiseDes_tail (dir : Dir) (ksel : BitVec 2) {s : State} (hksv : s.desKsv = true)
    (hnsk : s.desNsk.toNat ≤ 16) :
    execAll (stepwiseDes dir ksel s.desNsk).tail (succeed s) =
      .next (succeed { s with
        desBlock := finalPerm (swapHalves
          (((List.range s.desNsk.toNat).map (subkey s.desSk)).foldl feistelRound (initialPerm s.desBlock))) }) := by
  have rounds := execAll_desRounds (ks := List.range s.desNsk.toNat)
    (s := { s with desBlock := initialPerm s.desBlock }) hksv fun k hk =>
      ⟨List.mem_range.mp hk, Nat.lt_of_lt_of_le (List.mem_range.mp hk) hnsk⟩
  exact (execAll_cons_of_check_ok (i := .desIp) rfl _).trans (execAll_append rounds _)

/-- The sequence leaves the schedule, and the block that the cipher's own rounds give. -/
theorem execAll_stepwiseDes (dir : Dir) {ksel : BitVec 2} {nr : BitVec 5} (s : State) (hksel : ksel ≠ 3#2)
    (hlo : 1 ≤ nr.toNat) (hhi : nr.toNat ≤ 16) :
    execAll (stepwiseDes dir ksel nr) s = exec (desCommand dir ksel nr) s := by
  have check : commandCheck (.desKeyexp dir ksel nr) s = .ok := (keyAndRoundCheck_eq_ok ksel nr).mpr ⟨hksel, hlo, hhi⟩
  have tail := execAll_stepwiseDes_tail dir ksel (s := writeDesSchedule ksel nr dir s) rfl hhi
  rw [writeDesSchedule_desNsk, map_subkey_writeDesSchedule ksel dir s hhi] at tail
  rw [exec_desCommand_legal dir s hksel hlo hhi]
  exact (execAll_cons_of_check_ok check (stepwiseDes dir ksel nr).tail).trans tail

/-- Settles O44: the sequence against the command of each direction. -/
theorem desStepwiseEqualsTheCipher : Obligations.DesStepwiseEqualsTheCipher := fun _ _ s hksel hlo hhi =>
  ⟨execAll_stepwiseDes .enc s hksel hlo hhi, execAll_stepwiseDes .dec s hksel hlo hhi⟩

end Sys2Proof.Machine
end

section
/-! SUPPORT. The control family (46_control.md R260): NOP. -/

namespace Sys2Proof.Machine

/-- No other command has NOP's opcode (30_encoding.md R86, R89). -/
theorem illegalEffect_of_opcOf_nop {w : Word} (hopc : opcOf w = 0x00#8) (hne : w ≠ 0x00000000#32) :
    IllegalEffect w := by
  refine illegalEffect_of_ne_encode fun i hi => ?_
  rw [hopc] at hi
  cases i with
  | nop => exact hne
  | _ => simp [opcode] at hi

/-- NOP has no check that can fail, and writes nothing but ERR (R260). -/
theorem exec_nop (s : State) : exec .nop s = .next (succeed s) := exec_of_check_ok rfl

/-- The word of NOP, written to CMD (30_encoding.md R88). -/
theorem runCommandWord_nop (s : State) :
    runCommandWord 0x00000000#32 s = .next (succeed (writeReg .cmd 0x00000000#32 s)) :=
  (runCommandWord_ok s (decodeOfEncodeIsTheCommand .nop rfl)).trans (exec_nop _)

/-- STATUS.ERR is ERR (10_state.md R29). -/
theorem hostRead_status_err (s : State) : (hostRead 0x008#10 s).extractLsb' 0 4 = s.err :=
  (congrArg (BitVec.extractLsb' 0 4) (hostRead_ofNat (r := .status) rfl s)).trans (statusWord_fields s).1

/-- Settles O11: NOP succeeds from every state, whatever ERR was. -/
theorem nopOnlyClearsErr : Obligations.NopOnlyClearsErr := by
  refine ⟨rfl, fun _ => illegalEffect_of_opcOf_nop, exec_nop, runCommandWord_nop, rfl, fun s t _ hrun => ?_⟩
  cases (runCommandWord_nop s).symm.trans hrun
  exact hostRead_status_err _

end Sys2Proof.Machine
end

section
/-! SUPPORT. The checks of a command word and the code they leave in ERR (60_exceptions.md R300 to R303), and a reset
from any state (70_reset_and_hazards.md R340). -/

namespace Sys2Proof.Machine

/-! ## The codes that commands raise (R300) -/

theorem errCodeInv_raise_iff (code : ErrCode) (s : State) :
    ErrCodeInv (raise code s) ↔ code ≠ .invalidKeySize ∧ code ≠ .invalidBlockSize := by
  cases code <;> simp [ErrCodeInv, errValue]

theorem errCodeInv_raise_keyAndRoundCheck (ksel : BitVec 2) (nr : BitVec 5) (s : State) :
    ErrCodeInv (raise (keyAndRoundCheck ksel nr) s) := by
  rw [errCodeInv_raise_iff, keyAndRoundCheck, roundCountCheck]
  split_ifs <;> simp

/-- No command's checks answer one of the two codes kept from the source's taxonomy. -/
theorem errCodeInv_raise_commandCheck (i : Instr) (s u : State) : ErrCodeInv (raise (commandCheck i s) u) := by
  cases i with
  | aesArk idx =>
    rw [errCodeInv_raise_iff, commandCheck]
    split_ifs <;> simp
  | desRound idx =>
    rw [errCodeInv_raise_iff, commandCheck]
    split_ifs <;> simp
  | desKeyexp _ ksel nr => exact errCodeInv_raise_keyAndRoundCheck ksel nr u
  | desEnc ksel nr => exact errCodeInv_raise_keyAndRoundCheck ksel nr u
  | desDec ksel nr => exact errCodeInv_raise_keyAndRoundCheck ksel nr u
  | _ => exact .inl rfl

theorem errCodeInv_raise_wordCheck (w : Word) (s u : State) : ErrCodeInv (raise (wordCheck w s) u) := by
  unfold wordCheck
  split
  · exact (errCodeInv_raise_iff _ u).mpr (by decide)
  · exact errCodeInv_raise_commandCheck _ s u

theorem registerInvariant_errCode : RegisterInvariant ErrCodeInv where
  host _ _ _ _ h := h
  reset := .inl rfl
  write r v s h := by
    unfold ErrCodeInv
    rwa [writeReg_err]
  fail w s _ _ := errCodeInv_raise_wordCheck w s s
  command _ _ _ _ := .inl rfl

/-- Settles O59: only a command word writes ERR, with OK or with a code that its checks can answer. -/
theorem everyStepKeepsErrAmongTheRaisedCodes : Obligations.EveryStepKeepsErrAmongTheRaisedCodes :=
  fun _ _ => registerInvariant_errCode.step

/-! ## Failure and success (R301, R302) -/

theorem runCommandWord_of_check_ne_ok {w : Word} {s : State} (hc : wordCheck w s ≠ .ok) :
    runCommandWord w s = .next { s with cmdLast := w, err := errValue (wordCheck w s) } := by
  rcases runCommandWord_checked w s with ⟨_, he⟩ | ⟨hok, _⟩
  · exact he
  · exact absurd hok hc

/-- A command event runs its word and is then answered (20_memory.md R66). -/
theorem step_command {s : State} {w : Word} {rest : List HostEvent} (hp : s.pending = commandEvent w :: rest) :
    step s = respondAfter (runCommandWord w { s with pending := rest }) := by
  rw [step_event hp]
  exact performTransaction_write _ (legalTransaction_command w) rfl

/-- Settles O7: a failing word only writes CMD_LAST and its code, and a command's semantics leaves CMD_LAST alone. -/
theorem failureSetsOnlyErrAndSuccessClearsIt : Obligations.FailureSetsOnlyErrAndSuccessClearsIt := by
  refine ⟨fun w s => runCommandWord_of_check_ne_ok, fun s rest w hp hc => ?step, fun w s hc => ?success⟩
  case step =>
    have hc' : wordCheck w { s with pending := rest } ≠ .ok := by rwa [wordCheck_pending]
    rw [step_command hp, runCommandWord_of_check_ne_ok hc', wordCheck_pending]
    rfl
  case success =>
    rcases runCommandWord_checked w s with ⟨hne, _⟩ | ⟨_, i, _, _, he⟩
    · exact absurd hc hne
    · exact ⟨_, he, rfl, (semantics_host i _).1⟩

/-! ## The order of the checks (R303) -/

theorem wordCheck_illegal {w : Word} {e : Illegal} (s : State) (h : decode w = .illegal e) :
    wordCheck w s = .illegalCommand := by
  simp only [wordCheck, h]

theorem wordCheck_encode {i : Instr} (s : State) (h : i.wellFormed = true) :
    wordCheck (encode i) s = commandCheck i s := by
  simp only [wordCheck, decodeOfEncodeIsTheCommand i h]

/-- The run-time checks of a legal word in their order, read off its fields: the round count, then the schedules. -/
def runTimeCheck (w : Word) (s : State) : ErrCode :=
  if opcOf w ∈ [0x50#8, 0x60#8, 0x61#8] ∧ (nrOf w = 0#5 ∨ 16 < (nrOf w).toNat) then .invalidRoundCount
  else if opcOf w = 0x16#8 ∧ s.aesKsv = false then .noKeySchedule
  else if opcOf w = 0x43#8 ∧ (s.desKsv = false ∨ s.desNsk.toNat ≤ (idxOf w).toNat) then .noKeySchedule
  else .ok

/-- The KSEL check cannot fail for a legal word, so a key-expanding single-DES command has its round count to check. -/
theorem keyAndRoundCheck_of_legal {ksel : BitVec 2} (nr : BitVec 5) (h : ksel.toNat ≤ 2) :
    keyAndRoundCheck ksel nr = if nr = 0#5 ∨ 16 < nr.toNat then .invalidRoundCount else .ok := by
  have hksel : ksel ≠ 3#2 := fun h3 => absurd (h3 ▸ h) (by decide)
  exact if_neg hksel

/-- A legal command's checks are the run-time checks of its word. -/
theorem commandCheck_eq_runTimeCheck {i : Instr} (s : State) (h : i.wellFormed = true) :
    commandCheck i s = runTimeCheck (encode i) s := by
  rw [runTimeCheck, opcOf_encode]
  cases i with
  | aesArk idx =>
    have hidx : ¬ 10 < idx.toNat := Nat.not_lt_of_le (of_decide_eq_true h)
    cases hksv : s.aesKsv <;> simp [commandCheck, opcode, hidx, hksv]
  | desRound idx => simp [commandCheck, opcode, encode, fields_packWord]
  | desKeyexp _ ksel nr =>
    simpa [commandCheck, opcode, encode, fields_packWord] using keyAndRoundCheck_of_legal nr (of_decide_eq_true h)
  | desEnc ksel nr =>
    simpa [commandCheck, opcode, encode, fields_packWord] using keyAndRoundCheck_of_legal nr (of_decide_eq_true h)
  | desDec ksel nr =>
    simpa [commandCheck, opcode, encode, fields_packWord] using keyAndRoundCheck_of_legal nr (of_decide_eq_true h)
  | _ => simp [commandCheck, opcode]

theorem wordCheck_of_decode_ok {w : Word} {i : Instr} (s : State) (h : decode w = .ok i) :
    wordCheck w s = runTimeCheck w s := by
  obtain ⟨rfl, hwf⟩ := encodeOfDecodeIsTheWord w i h
  rw [wordCheck_encode s hwf, commandCheck_eq_runTimeCheck s hwf]

theorem runCommandWord_answers (w : Word) (s : State) : ∃ t, runCommandWord w s = .next t := by
  rcases runCommandWord_checked w s with ⟨_, he⟩ | ⟨_, _, _, _, he⟩ <;> exact ⟨_, he⟩

/-- Settles O8: each clause on an illegal word by the list of those words, the clause on a legal one by its run-time
checks. -/
theorem checksAreMadeInOrder : Obligations.ChecksAreMadeInOrder := by
  intro w s
  obtain ⟨t, ht⟩ := runCommandWord_answers w s
  have herr : t.err = errValue (wordCheck w s) := runCommandWord_err ht
  have illegal : (∃ e, decode w = .illegal e) → t.err = 0x4#4 := by
    rintro ⟨e, he⟩
    rw [herr, wordCheck_illegal s he, errValue]
  have listed := illegal ∘ (illegalWordsAreExactlyTheListedOnes w).1.mpr
  refine ⟨t, ht, fun e he => illegal ⟨e, he⟩, fun hzero => listed (.inr (.inl hzero)),
    fun hopc hidx => listed (.inr (.inr (.inl ⟨hopc, hidx⟩))),
    fun hopc hksel => listed (.inr (.inr (.inr ⟨hopc, hksel⟩))), fun i hi => ?legal⟩
  rw [herr, wordCheck_of_decode_ok s hi]
  simp only [runTimeCheck, apply_ite errValue]
  rfl

/-! ## Reset (R340) -/

/-- Settles O55: the step at a reset is the reset state beside the host's fields, which no read sees. -/
theorem resetEventRestoresEveryRegister : Obligations.ResetEventRestoresEveryRegister :=
  fun _ _ hp => ⟨_, step_reset hp, rfl, rfl, fun off => hostRead_hostFields off State.reset _ _ _⟩

end Sys2Proof.Machine
end
